-- ==== Sys2Proof/Word.lean ====
section
/-!
DEFINITION. The bit types of the core: bytes, schedule words, and the two fixed-size values it handles.
Sizes are 00_scope.md R5; bit 0 is the least significant bit everywhere (R7).
-/

namespace Sys2Proof

/-- `u8`, R6. -/
abbrev Byte := BitVec 8

/-- `u32`, R6. All word operations are on 32 bits (R8). -/
abbrev Word := BitVec 32

/-- Exactly 8 bytes: a key, a block, the payload of a frame (R5, R60). A key is never assembled into a word (R42). -/
abbrev Payload := Vector Byte 8

/-- The 32 words of a schedule, `KS[0..31]` (R21). -/
abbrev Schedule := Vector Word 32

end Sys2Proof
end

