-- ==== Sys2Proof/Machine/Response.lean ====
section
/-!
DEFINITION. What the core says to its host: the three fault codes of 60_exceptions.md R150 and the four tagged
responses of 30_encoding.md R66. A fault of this hardware is a response, never a stop.
-/

namespace Sys2Proof

/-- The core's three synchronous faults, "and no others" (R150). -/
inductive FaultCode where
  /-- The frame is not exactly 9 bytes long; raised by the decoder (R151). -/
  | lengthMismatch
  /-- A reserved opcode, or a `KSRD` frame with a reserved payload bit set; raised by the decoder (R152). -/
  | illegalCommand
  /-- `XFORM` or `KSRD` decoded correctly but `KSV = 0`; raised by those commands (R153). -/
  | noSchedule
  deriving DecidableEq, Repr

/-- The code numbers of R150; "Code 0 is not a fault and is not used". -/
def faultNumber : FaultCode → Nat
  | .lengthMismatch => 1
  | .illegalCommand => 2
  | .noSchedule => 3

/-- The four tagged values of R66. How they travel on wires is not specified (R67). -/
inductive Response where
  /-- `KSGEN.E` or `KSGEN.D` executed. -/
  | ok
  /-- `XFORM` executed: `b[k]` is output byte `k` of `Transform`. -/
  | block (b : Payload)
  /-- `KSRD` executed: the schedule word, as a number (R67). -/
  | word (w : Word)
  /-- The frame was refused. -/
  | fault (code : FaultCode)
  deriving DecidableEq, Repr

end Sys2Proof
end

