-- ==== Sys2Proof/Config.lean ====
section
/-!
DEFINITION. What the block fixes and what its environment fixes. Every size is fixed and there is no configurable
option (00_scope.md R5): the sizes of keys, blocks and schedules stand in the types of Word.lean, the frame length
here. The open parameters `LAT_KSGEN`, `LAT_XFORM`, `LAT_KSRD`, `PORT_HANDSHAKE` and `RESP_WIRE_FORMAT` are ones
"which no rule of this spec depends on and which a model does not take" (R5). The spec leaves no value free, so no
constant here is opaque.
-/

namespace Sys2Proof

/-- Every frame is 9 bytes, an opcode and 8 payload bytes (30_encoding.md R60, R65). -/
def Config.frameBytes : Nat := 9

/-- The default of `FIXED_KEY`, a parameter of the HOST software and not of the core (43_password_ops.md R141).
UNVERIFIED: the spec supplies the bytes from general knowledge (93_implementation_defined.md G6). Log entry 10. -/
def Config.fixedKey : Payload := #v[0x17, 0x52, 0x6b, 0x06, 0x23, 0x4e, 0x58, 0x07]

end Sys2Proof
end

