-- ==== Sys2Proof/Machine/Bits.lean ====
section
/-!
DEFINITION. Word operations, byte order and the numbering of a frame's bits: 00_scope.md R8, R9 and 30_encoding.md R60.
-/

namespace Sys2Proof.Machine

/-- `be32(b0, b1, b2, b3)`, `b0` the most significant byte (R9). -/
def be32 (b0 b1 b2 b3 : Byte) : Word :=
  (b0.setWidth 32 <<< 24) ||| (b1.setWidth 32 <<< 16) ||| (b2.setWidth 32 <<< 8) ||| b3.setWidth 32

/-- Byte `k` of `bytes_be(w)`: `w[31:24]`, `w[23:16]`, `w[15:8]`, `w[7:0]` for `k = 0, 1, 2, 3` (R9). -/
def byteBE (w : Word) (k : Fin 4) : Byte := (w >>> (8 * (3 - k.val))).setWidth 8

/-- `rotl32(a, n)` for `0 <= n <= 31` (R8). -/
def rotl32 (a : Word) (n : Nat) : Word := if n = 0 then a else (a <<< n) ||| (a >>> (32 - n))

/-- `rotr32(a, n) = rotl32(a, (32 - n) mod 32)` (R8). -/
def rotr32 (a : Word) (n : Nat) : Word := rotl32 a ((32 - n) % 32)

/-- `(w >> s) & 0x3f`: the 6-bit group of `w` at bits `s + 5 : s` (R7, R123). -/
def sixBits (w : Word) (s : Nat) : BitVec 6 := (w >>> s).setWidth 6

/-- A byte string as one number, its first byte the most significant (R60). -/
def numberOfBytes (f : List Byte) : Nat := f.foldl (fun n b => 256 * n + b.toNat) 0

/-- The 9 bytes of a 72-bit frame number: byte `k` is frame bits `71-8k : 64-8k` (R60). -/
def frameOfNumber (w : Nat) : List Byte := (List.range 9).map fun k => BitVec.ofNat 8 (w >>> (8 * (8 - k)))

end Sys2Proof.Machine
end

