-- ==== Sys2Proof/Syntax.lean ====
section
/-!
DEFINITION. The command set: one constructor per row of spec/opcode_table.json (30_encoding.md R61). The operand types
carry their own bounds (R62): a key or a block is any 8 bytes, `idx` is 0 to 31, so every term is a legal command.
What can be ill formed is a frame; its checks are in WellFormed.lean.
-/

namespace Sys2Proof

inductive Instr where
  /-- `KSGEN.E key`: generate an encryption-order schedule (R107). -/
  | ksgenE (key : Payload)
  /-- `KSGEN.D key`: generate a decryption-order schedule (R108). -/
  | ksgenD (key : Payload)
  /-- `XFORM block`: transform one block with the stored schedule (R127). -/
  | xform (block : Payload)
  /-- `KSRD idx`: read one schedule word (R109). -/
  | ksrd (idx : Fin 32)
  deriving DecidableEq, Repr

end Sys2Proof
end

