-- ==== Sys2Proof/WellFormed.lean ====
section
/-!
DEFINITION. Which byte strings are frames of the command set, said without the decoder. Commands themselves carry
their bounds in their types (Syntax.lean), so the checks here are those the spec makes on what arrives: the length
(30_encoding.md R65), the opcode and the reserved payload bits of `KSRD` (R64). The rows of spec/opcode_table.json
stand here too, as the spec prints them: a mask and a pattern over the 72-bit frame number.
-/

namespace Sys2Proof

/-- R65: "Every frame is 9 bytes". -/
def lengthOk (f : List Byte) : Bool := f.length == Config.frameBytes

/-- R61, R64 (a): the opcodes `0x00` to `0x03` are defined, "all other values of `op` are reserved". -/
def opcodeDefined (f : List Byte) : Bool := f.headD 0xff#8 ≤ 0x03#8

/-- R64 (b): in a `KSRD` frame `p[0] & 0xe0` and `p[1] .. p[7]` are zero. -/
def reservedClear (f : List Byte) : Bool :=
  f.headD 0xff#8 != 0x03#8 || ((f.getD 1 0#8 &&& 0xe0#8) == 0#8 && (f.drop 2).all (· == 0#8))

/-- A frame the decoder takes: all three checks hold. -/
def frameWellFormed (f : List Byte) : Bool := lengthOk f && opcodeDefined f && reservedClear f

/-- One row of spec/opcode_table.json: a frame number `n` is of this row when `n & mask = pattern`. -/
structure OpcodeRow where
  mnemonic : String
  mask : Nat
  pattern : Nat
  deriving DecidableEq, Repr

/-- The four rows of spec/opcode_table.json. -/
def opcodeTable : List OpcodeRow :=
  [⟨"KSGEN.E", 0xff0000000000000000, 0x000000000000000000⟩,
   ⟨"KSGEN.D", 0xff0000000000000000, 0x010000000000000000⟩,
   ⟨"XFORM", 0xff0000000000000000, 0x020000000000000000⟩,
   ⟨"KSRD", 0xffe0ffffffffffffff, 0x030000000000000000⟩]

/-- The frame number `n` has the fixed bits of row `r`. -/
def rowMatches (r : OpcodeRow) (n : Nat) : Bool := n &&& r.mask == r.pattern

/-- The row of a command. -/
def instrMnemonic : Instr → String
  | .ksgenE _ => "KSGEN.E"
  | .ksgenD _ => "KSGEN.D"
  | .xform _ => "XFORM"
  | .ksrd _ => "KSRD"

end Sys2Proof
end

