-- ==== Sys2Proof/Decode.lean ====
section
/-!
DEFINITION. The decoder of 30_encoding.md R69, total on any byte string, and after it the encoder, written from R60 and
R61. Decoding reads no state; what it refuses it refuses by the name of a fault (R64, R65), the length first (R154).
-/

namespace Sys2Proof

/-- `p[0..7] <- f[1..8]` (R60, R69). -/
def payloadOf (f : List Byte) (h : f.length = Config.frameBytes) : Payload :=
  ⟨(f.drop 1).toArray, by simp [h, Config.frameBytes]⟩

/-- `idx = p[0] & 0x1f`, zero-extended (R62). -/
def indexOf (p0 : Byte) : Fin 32 :=
  ⟨(p0 &&& 0x1f#8).toNat, by
    rw [BitVec.toNat_and]; exact Nat.lt_of_le_of_lt Nat.and_le_right (by decide)⟩

/-- The `KSRD` arm of R69: the reserved payload bits are checked before the index is taken. -/
def decodeKsrd (p : Payload) : Except FaultCode Instr :=
  if p[0] &&& 0xe0#8 ≠ 0#8 then .error .illegalCommand
  else if p[1] ||| p[2] ||| p[3] ||| p[4] ||| p[5] ||| p[6] ||| p[7] ≠ 0#8 then .error .illegalCommand
  else .ok (.ksrd (indexOf p[0]))

/-- The opcode map (R61) on a frame of the right length. -/
def decodeFields (op : Byte) (p : Payload) : Except FaultCode Instr :=
  if op = 0x00#8 then .ok (.ksgenE p)
  else if op = 0x01#8 then .ok (.ksgenD p)
  else if op = 0x02#8 then .ok (.xform p)
  else if op = 0x03#8 then decodeKsrd p
  else .error .illegalCommand

/-- `Decode(f)` (R69). -/
def decode (f : List Byte) : Except FaultCode Instr :=
  if h : f.length = Config.frameBytes then
    decodeFields (f[0]'(by simp [h, Config.frameBytes])) (payloadOf f h)
  else .error .lengthMismatch

/-- The opcode of a command (R61); bit 0 of a `KSGEN` opcode is the mode flag (R63). -/
def opcodeOf : Instr → Byte
  | .ksgenE _ => 0x00#8
  | .ksgenD _ => 0x01#8
  | .xform _ => 0x02#8
  | .ksrd _ => 0x03#8

/-- The payload of a command (R61, R62); the reserved bits of `KSRD` are 0. -/
def payloadBytes : Instr → List Byte
  | .ksgenE key => key.toList
  | .ksgenD key => key.toList
  | .xform block => block.toList
  | .ksrd idx => BitVec.ofNat 8 idx.val :: List.replicate 7 0#8

/-- The frame of a command (R60). -/
def encode (i : Instr) : List Byte := opcodeOf i :: payloadBytes i

/-- What the decoder reads from a frame given as the number `w` of spec/opcode_table.json: one 72-bit number, the opcode
in bits 71:64 (R60). Bits at and above `nbits` count as 0. Log entry 6. -/
def decodeTableWord (nbits w : Nat) : Option Instr :=
  match decode (Machine.frameOfNumber (w % 2 ^ nbits)) with
  | .ok i => some i
  | .error _ => none

end Sys2Proof
end

