-- ==== Sys2Proof/Machine/BlockCipher.lean ====
section
/-!
DEFINITION. The block cipher datapath `Transform(block, ks)` of 42_block_cipher.md R120, in the spec's five steps (R121 to
R126). Pure and total on every block and every 32 words: its domain is not restricted to the schedules a key can
produce (R112, 93_implementation_defined.md U7).
-/

namespace Sys2Proof.Machine

/-- The two working values `left` and `right` (10_state.md R25); they live inside one command only. -/
structure Halves where
  left : Word
  right : Word
  deriving DecidableEq, Repr

/-- Step 1, load: big-endian halves (R121, 20_memory.md R41). -/
def loadBlock (b : Payload) : Halves :=
  ⟨be32 b[0] b[1] b[2] b[3], be32 b[4] b[5] b[6] b[7]⟩

/-- Step 5, emit: `bytes_be(right) || bytes_be(left)`, right half first (R126, R41). -/
def emitBlock (h : Halves) : Payload :=
  #v[byteBE h.right 0, byteBE h.right 1, byteBE h.right 2, byteBE h.right 3,
    byteBE h.left 0, byteBE h.left 1, byteBE h.left 2, byteBE h.left 3]

/-- `work = ((left >> s) ^ right) & m ; right ^= work ; left ^= work << s` (R122 lines 1, 2; R125 lines 4, 5). -/
def exchangeLeft (s : Nat) (m : Word) (h : Halves) : Halves :=
  let work := ((h.left >>> s) ^^^ h.right) &&& m
  ⟨h.left ^^^ (work <<< s), h.right ^^^ work⟩

/-- `work = ((right >> s) ^ left) & m ; left ^= work ; right ^= work << s` (R122 lines 3, 4; R125 lines 6, 7). -/
def exchangeRight (s : Nat) (m : Word) (h : Halves) : Halves :=
  let work := ((h.right >>> s) ^^^ h.left) &&& m
  ⟨h.left ^^^ work, h.right ^^^ (work <<< s)⟩

/-- `work = (left ^ right) & m ; left ^= work ; right ^= work` (R122 line 6, R125 line 2). -/
def exchangeSame (m : Word) (h : Halves) : Halves :=
  let work := (h.left ^^^ h.right) &&& m
  ⟨h.left ^^^ work, h.right ^^^ work⟩

/-- Step 2, the initial permutation: the seven lines of R122 in order. -/
def initialPermutation (h : Halves) : Halves :=
  let h1 := exchangeLeft 4 0x0f0f0f0f#32 h
  let h2 := exchangeLeft 16 0x0000ffff#32 h1
  let h3 := exchangeRight 2 0x33333333#32 h2
  let h4 := exchangeRight 8 0x00ff00ff#32 h3
  let h5 : Halves := ⟨h4.left, rotl32 h4.right 1⟩
  let h6 := exchangeSame 0xaaaaaaaa#32 h5
  ⟨rotl32 h6.left 1, h6.right⟩

/-- Step 4, the final permutation: the seven lines of R125 in order. -/
def finalPermutation (h : Halves) : Halves :=
  let h1 : Halves := ⟨h.left, rotr32 h.right 1⟩
  let h2 := exchangeSame 0xaaaaaaaa#32 h1
  let h3 : Halves := ⟨rotr32 h2.left 1, h2.right⟩
  let h4 := exchangeLeft 8 0x00ff00ff#32 h3
  let h5 := exchangeLeft 2 0x33333333#32 h4
  let h6 := exchangeRight 16 0x0000ffff#32 h5
  exchangeRight 4 0x0f0f0f0f#32 h6

/-- A substitution table read with a 6-bit group: always in range (20_memory.md R44). -/
def spRead (t : Vector Word 64) (g : BitVec 6) : Word := t[g.toNat]

/-- Step 3, the round function `F(x, k0, k1)` (R123, 90_conflicts.md C1): both words meet the same half, the first
rotated right by 4, the second unrotated. -/
def roundF (x k0 k1 : Word) : Word :=
  let work1 := rotr32 x 4 ^^^ k0
  let work2 := x ^^^ k1
  spRead SP7 (sixBits work1 0) ||| spRead SP5 (sixBits work1 8) |||
    spRead SP3 (sixBits work1 16) ||| spRead SP1 (sixBits work1 24) |||
    spRead SP8 (sixBits work2 0) ||| spRead SP6 (sixBits work2 8) |||
    spRead SP4 (sixBits work2 16) ||| spRead SP2 (sixBits work2 24)

/-- Step 3, round `i`: the half it reads is not changed, the halves are never exchanged by an assignment (R124). -/
def cipherRound (ks : Schedule) (i : Fin 16) (h : Halves) : Halves :=
  let k0 := ks[2 * i.val]
  let k1 := ks[2 * i.val + 1]
  if i.val % 2 = 0 then ⟨h.left ^^^ roundF h.right k0 k1, h.right⟩
  else ⟨h.left, h.right ^^^ roundF h.left k0 k1⟩

/-- Step 3, the sixteen rounds in ascending order (R124). -/
def cipherRounds (ks : Schedule) (h : Halves) : Halves :=
  (List.finRange 16).foldl (fun h i => cipherRound ks i h) h

/-- `Transform(block, ks)` (R120). -/
def transform (block : Payload) (ks : Schedule) : Payload :=
  emitBlock (finalPermutation (cipherRounds ks (initialPermutation (loadBlock block))))

/-- `rev(ks)`, defined by `rev(ks)[2*(15-i)+k] = ks[2*i+k]`: the subkey pairs in reverse order (R128). -/
def revSchedule (ks : Schedule) : Schedule :=
  Vector.ofFn fun m => ks[2 * (15 - m.val / 2) + m.val % 2]

end Sys2Proof.Machine
end

