-- ==== Sys2Proof/Machine/State.lean ====
section
/-!
DEFINITION. The state of one core and its two interface lists, as plain data, and the state right after reset.
The spec's architectural state is "exactly the pair (KS, KSV)" (10_state.md R20): the fields `ks` and `ksv`. The other two
fields are the model's own: what the host has sent and not had taken, and what the core has answered.
-/

namespace Sys2Proof.Machine

/-- What can arrive from outside the core. -/
inductive Input where
  /-- A byte string handed to the core as a frame, of any length (30_encoding.md R60, R65). -/
  | frame (bytes : List Byte)
  /-- The reset event (70_reset_and_hazards.md R170). `running` is the frame whose command was running when it came, if one
  was: that command "is abandoned and gets no response". Log entry 4. -/
  | reset (running : Option (List Byte))
  deriving DecidableEq, Repr

structure State where
  /-- `KS[0..31]`, "32 words, present only when `KSV = 1`" (R20, R21). `none` is the spec's own state "`KS` holds no value"
  (R22, R29, R170). Log entry 3. -/
  ks : Option Schedule
  /-- `KSV`, the valid flag (R22). -/
  ksv : Bool
  /-- The model's own: inputs not yet taken, in issue order (20_memory.md R48). Log entry 1. -/
  pending : List Input
  /-- The model's own: responses given, oldest first (R66). Log entry 2. -/
  responses : List Response
  deriving DecidableEq, Repr

/-- What stops the machine: nothing does. "every input in every state has one defined response and one defined next state"
(93_implementation_defined.md, Part A), and the three faults of R150 are responses after which the machine goes on (R155).
So this type has no constructor: no step ends in a fault. Log entry 8. -/
inductive Fault where
  deriving DecidableEq, Repr

/-- Why the model declines an instruction. -/
inductive Refusal where
  /-- An instruction with no meaning in the model yet; raised only by an arm of `exec`. No arm raises it: all four commands
  have their meaning. Safe. -/
  | notModelled (mnemonic : String)
  deriving DecidableEq, Repr

/-- After reset: `KSV = 0` and `KS` holds no value (R29); nothing has been sent and nothing answered (log entries 1, 2). -/
def State.reset : State := { ks := none, ksv := false, pending := [], responses := [] }

/-- What one step can end in. -/
abbrev Result := Host.Outcome State Fault Refusal

end Sys2Proof.Machine
end

