-- ==== Sys2Proof/Machine/Flags.lean ====
section
/-!
DEFINITION. The block's only flag, `KSV` (10_state.md R22). "There are no condition codes": no command produces carry, zero,
sign or overflow, and nothing is conditional on data.
-/

namespace Sys2Proof.Machine

/-- `KSV <- 1`, a side effect of every completed `KSGEN` (R22). -/
def setKsv (s : State) : State := { s with ksv := true }

/-- `KSV <- 0`, only by reset (R22, R170). -/
def clearKsv (s : State) : State := { s with ksv := false }

end Sys2Proof.Machine
end

