-- ==== Sys2Proof/Machine/KeySchedule.lean ====
section
/-!
DEFINITION. The key schedule generator `KeySchedule(key, decrypt)` of 41_key_schedule.md R100, in the spec's five steps
(R101 to R105). A pure, total function of the key and the mode; the 56-bit vectors are functions of their index (00_scope.md R10:
"They are arrays, not integers").
-/

namespace Sys2Proof.Machine

/-- Key bit `l`: `key[l >> 3] & BYTEBIT[l & 7]` is not zero (R101, 20_memory.md R42). -/
def keyBit (key : Payload) (l : Fin 64) : Bool :=
  (key[l.val / 8] &&& BYTEBIT[l.val % 8]) != 0#8

/-- Step 1, Permuted Choice 1: `pc1m[j]` (R101). -/
def pc1m (key : Payload) (j : Fin 56) : Bool := keyBit key PC1[j]

/-- The index that a left rotation of each 28-bit half by `r` brings to index `j` (R102). -/
def rotIndex (r : Nat) (j : Fin 56) : Fin 56 :=
  if j.val < 28 then ⟨(j.val + r) % 28, by omega⟩ else ⟨28 + (j.val - 28 + r) % 28, by omega⟩

/-- Step 2, rotation: `pcr[j]` of round `i`, made from the un-rotated `pc1m` and the total `TOTROT[i]` (R102, 90_conflicts.md C2). -/
def pcr (key : Payload) (i : Fin 16) (j : Fin 56) : Bool := pc1m key (rotIndex TOTROT[i] j)

/-- Step 3, placement: the slot of round `i` (R103). It is its own inverse, so it is also the round held at slot `i`. -/
def slotOf (decrypt : Bool) (i : Fin 16) : Fin 16 := if decrypt then ⟨15 - i.val, by omega⟩ else i

/-- Step 4, Permuted Choice 2: OR the weight of each selected bit into a word that starts at 0. -/
def selectWord (selected : Fin 24 → Bool) : Word :=
  (List.finRange 24).foldl (fun w j => if selected j then w ||| BIGBYTE[j] else w) 0#32

/-- Step 4: the first raw subkey word of round `i`, selections 0 to 23 (R104). -/
def rawEven (key : Payload) (i : Fin 16) : Word := selectWord fun j => pcr key i PC2[j.val]

/-- Step 4: the second raw subkey word of round `i`, selections 24 to 47 (R104). -/
def rawOdd (key : Payload) (i : Fin 16) : Word := selectWord fun j => pcr key i PC2[j.val + 24]

/-- Step 5, layout: the even word of a pair (R105, 90_conflicts.md C3). -/
def cookEven (raw0 raw1 : Word) : Word :=
  ((raw0 &&& 0x00fc0000#32) <<< 6) ||| ((raw0 &&& 0x00000fc0#32) <<< 10) |||
    ((raw1 &&& 0x00fc0000#32) >>> 10) ||| ((raw1 &&& 0x00000fc0#32) >>> 6)

/-- Step 5, layout: the odd word of a pair (R105). -/
def cookOdd (raw0 raw1 : Word) : Word :=
  ((raw0 &&& 0x0003f000#32) <<< 12) ||| ((raw0 &&& 0x0000003f#32) <<< 16) |||
    ((raw1 &&& 0x0003f000#32) >>> 4) ||| (raw1 &&& 0x0000003f#32)

/-- The two schedule words of round `i` (R103: "the first word of round `i` goes to the even position in both modes"). -/
def roundWord (key : Payload) (i : Fin 16) (odd : Bool) : Word :=
  if odd then cookOdd (rawEven key i) (rawOdd key i) else cookEven (rawEven key i) (rawOdd key i)

/-- `KeySchedule(key, decrypt)` (R100): position `2s` and `2s + 1` hold the words of the round whose slot is `s`.
DEDUCED: the spec writes round `i` at slot `slotOf i`; reading position `2s + k` back asks which round has slot `s`, and
`slotOf` is its own inverse (log entry 7; the statement `PlacementOfRounds` has the spec's form). -/
def keySchedule (key : Payload) (decrypt : Bool) : Schedule :=
  Vector.ofFn fun m => roundWord key (slotOf decrypt ⟨m.val / 2, by omega⟩) (m.val % 2 == 1)

end Sys2Proof.Machine
end

