-- ==== Sys2Proof/Machine/Operands.lean ====
section
/-!
DEFINITION. The operands of the commands that are not in the frame. Explicit operands (a key, a block, an index) are
assembled by the decoder (30_encoding.md R62); the implicit operand of `XFORM` and `KSRD` is the schedule file.
-/

namespace Sys2Proof.Machine

/-- The schedule a command may read: `KS` when `KSV = 1`, and nothing when `KSV = 0`, whatever `KS` is (R22, R153).
DESIGN CHOICE: in a state no run reaches, `KSV = 1` with no words in `KS`, there is nothing to read either (log entry 3). -/
def scheduleOperand (s : State) : Option Schedule := if s.ksv then s.ks else none

/-- `KS[idx]`, a read without side effect (R45). -/
def scheduleWord (ks : Schedule) (idx : Fin 32) : Word := ks[idx]

end Sys2Proof.Machine
end

