-- ==== Sys2Proof/Machine/Ops.lean ====
section
/-!
DEFINITION. The named operations over the state: responding, raising a fault, writing the schedule, reading it under `KSV`,
taking the next input, the reset event.
-/

namespace Sys2Proof.Machine

/-- `respond X`: the command ends with response `X` (00_scope.md R11, 30_encoding.md R66). -/
def respond (r : Response) (s : State) : State := { s with responses := s.responses ++ [r] }

/-- `raise Fault(code)`, the one fault path (60_exceptions.md R155, R160): "The only effect is the `Fault(code)` response". No register is
saved, no mode changes, control goes nowhere and no flag sticks. There is no return operation beside it: "There is no
return-from-trap command and nothing to restore" (R156). -/
def takeFault (code : FaultCode) (s : State) : State := respond (.fault code) s

/-- `KS[0..31] <- v`, all 32 registers at once (10_state.md R21, R30). -/
def writeSchedule (v : Schedule) (s : State) : State := { s with ks := some v }

/-- What both `KSGEN` commands do: `KS <- KeySchedule(key, decrypt) ; KSV <- 1 ; respond Ok` (41_key_schedule.md R107, R108). -/
def generateSchedule (decrypt : Bool) (key : Payload) (s : State) : State :=
  respond .ok (setKsv (writeSchedule (keySchedule key decrypt) s))

/-- What `XFORM` and `KSRD` share: `if KSV == 0: raise Fault(NoSchedule)`, else a response made from the schedule; no
state is written (R109, R127, R153). -/
def answerFromSchedule (answer : Schedule → Response) (s : State) : State :=
  match scheduleOperand s with
  | none => takeFault .noSchedule s
  | some ks => respond (answer ks) s

/-- The reset event: `KSV = 0`, `KS` holds no value, no response to an abandoned command (70_reset_and_hazards.md R170, R30). What the host
has already been told, and what it sends afterwards, stand (log entries 1, 2). -/
def resetCore (s : State) : State := clearKsv { s with ks := none }

/-- The host's next input, and the state in which it is taken: inputs are taken one at a time in issue order (20_memory.md R48). -/
def takeInput (s : State) : Option (Input × State) :=
  match s.pending with
  | [] => none
  | x :: rest => some (x, { s with pending := rest })

/-- Nothing to do: "between frames it is idle and holds `(KS, KSV)`" (R164). Log entry 5. -/
def idle (s : State) : State := s

/-- The host presents the frame `f` next. -/
def presentFrame (f : List Byte) (s : State) : State := { s with pending := .frame f :: s.pending }

end Sys2Proof.Machine
end

