-- ==== Sys2Proof/Machine/CipherCommands.lean ====
section
/-!
DEFINITION. The command of 42_block_cipher.md: `XFORM` (R127).
-/

namespace Sys2Proof.Machine

/-- `XFORM`: transform one block with the stored schedule, `NoSchedule` when `KSV = 0`. The direction comes from the
schedule; the command has no mode operand (R127). -/
def execXform (block : Payload) (s : State) : Result :=
  .next (answerFromSchedule (fun ks => .block (transform block ks)) s)

end Sys2Proof.Machine
end

