-- ==== Sys2Proof/Machine/ScheduleCommands.lean ====
section
/-!
DEFINITION. The three commands of 41_key_schedule.md: `KSGEN.E` (R107), `KSGEN.D` (R108) and `KSRD` (R109).
-/

namespace Sys2Proof.Machine

/-- `KSGEN.E`: generate an encryption-order schedule. Raises no fault and reads no state (R107). -/
def execKsgenE (key : Payload) (s : State) : Result := .next (generateSchedule false key s)

/-- `KSGEN.D`: generate a decryption-order schedule. Raises no fault and reads no state (R108). -/
def execKsgenD (key : Payload) (s : State) : Result := .next (generateSchedule true key s)

/-- `KSRD`: read one schedule word, `NoSchedule` when `KSV = 0` (R109). -/
def execKsrd (idx : Fin 32) (s : State) : Result :=
  .next (answerFromSchedule (fun ks => .word (scheduleWord ks idx)) s)

end Sys2Proof.Machine
end

