-- ==== Sys2Proof/Machine/Dispatch.lean ====
section
/-!
DEFINITION. One arm per command (30_encoding.md R61), each one direct call of its meaning.
-/

namespace Sys2Proof.Machine

def exec (i : Instr) (s : State) : Host.Outcome State Fault Refusal :=
  match i with
  | .ksgenE key => Sys2Proof.Machine.execKsgenE key s
  | .ksgenD key => Sys2Proof.Machine.execKsgenD key s
  | .xform block => Sys2Proof.Machine.execXform block s
  | .ksrd idx => Sys2Proof.Machine.execKsrd idx s

end Sys2Proof.Machine
end

