-- ==== Sys2Proof/Machine/Step.lean ====
section
/-!
DEFINITION. One step takes one input of the host (70_reset_and_hazards.md R173: "a step takes one frame and gives one response"): a
frame is decoded and its command run to completion, a frame the decoder refuses is answered with its fault, a reset
event resets the core. The length is checked first, then the frame is decoded, then the command looks at `KSV` (R154).
-/

namespace Sys2Proof.Machine

def step (s : State) : Host.Outcome State Fault Refusal :=
  match takeInput s with
  | none => .next (idle s)
  | some (.reset _, t) => .next (resetCore t)
  | some (.frame f, t) =>
    match decode f with
    | .ok i => exec i t
    | .error code => .next (takeFault code t)

/-- `s` with the frame numbered `w` (bits at and above `nbits` zero) presented next, so that the very next step runs it. This stands
for the host sending a command: log entry 6. -/
def State.withFetchWord (s : State) (nbits w : Nat) : State := presentFrame (frameOfNumber (w % 2 ^ nbits)) s

end Sys2Proof.Machine
end

