-- ==== Sys2Proof/Machine/Password.lean ====
section
/-!
DEFINITION. The host software of 43_password_ops.md: three operations that run on the host (R140) and drive the core with
the commands listed here. They are outside the hardware (00_scope.md R4 (a)); nothing the machine does goes through this file.
`FIXED_KEY` is a parameter `fk` (R141), with `Config.fixedKey` its default.
-/

namespace Sys2Proof.Machine

/-- `pad8(x)`: cut to the first 8 bytes, extended with `0x00` bytes to 8. -/
def pad8 (x : List Byte) : Payload := Vector.ofFn fun k : Fin 8 => x.getD k.val 0#8

/-- A byte string that must be exactly 8 bytes: any other is rejected by the host before a frame is sent (R145). -/
def exactly8 (x : List Byte) : Option Payload := if h : x.length = 8 then some ⟨x.toArray, by simpa using h⟩ else none

/-- `encrypt_password` (R142). -/
def encryptPassword (fk : Payload) (password : List Byte) : Payload := transform (pad8 password) (keySchedule fk false)

/-- `decrypt_password` (R143): trailing zero bytes are not stripped. `none`: the ciphertext is not 8 bytes (R145). -/
def decryptPassword (fk : Payload) (ciphertext : List Byte) : Option Payload :=
  (exactly8 ciphertext).map fun c => transform c (keySchedule fk true)

/-- `generate_challenge_response` (R144): `r0 || r1`. `none`: the challenge is not 16 bytes (R145). -/
def challengeResponse (password challenge : List Byte) : Option (List Byte) :=
  match exactly8 (challenge.take 8), exactly8 (challenge.drop 8) with
  | some c0, some c1 =>
    let ks := keySchedule (pad8 password) false
    some ((transform c0 ks).toList ++ (transform c1 ks).toList)
  | _, _ => none

/-- The commands of `ENCPW pw` (R142, 30_encoding.md R68). -/
def encpw (fk : Payload) (password : List Byte) : List Instr := [.ksgenE fk, .xform (pad8 password)]

/-- The commands of `DECPW ct` (R143, R68). -/
def decpw (fk ciphertext : Payload) : List Instr := [.ksgenD fk, .xform ciphertext]

/-- The commands of `CHALRESP pw, ch` (R144, R68), the challenge as its two blocks. -/
def chalresp (password : List Byte) (c0 c1 : Payload) : List Instr :=
  [.ksgenE (pad8 password), .xform c0, .xform c1]

end Sys2Proof.Machine
end

