-- ==== Sys2Proof/Machine/Assembler.lean ====
section
/-!
DEFINITION. The assembler text of 30_encoding.md R68 and the pseudo-commands that are not password operations. Host side: nothing the
machine does goes through this file.
-/

namespace Sys2Proof.Machine

def hexDigit (n : Nat) : Char := "0123456789abcdef".toList.getD n '0'

/-- Two hex digits (R68). -/
def hexByte (b : Byte) : String := String.ofList [hexDigit (b.toNat / 16), hexDigit (b.toNat % 16)]

/-- Bytes "separated by spaces" (R68). -/
def hexBytes (p : Payload) : String := String.intercalate " " (p.toList.map hexByte)

/-- A command as R68 writes it: "a mnemonic followed by its operand"; `idx` is decimal. -/
def assemblyOf (i : Instr) : String :=
  instrMnemonic i ++ " " ++
    match i with
    | .ksgenE key => hexBytes key
    | .ksgenD key => hexBytes key
    | .xform block => hexBytes block
    | .ksrd idx => toString idx.val

/-- `KSGEN m, key`: the "unified behind a mode flag" shape (R68, R63). -/
def ksgen (decrypt : Bool) (key : Payload) : Instr := if decrypt then .ksgenD key else .ksgenE key

/-- A quoted text operand: its bytes, cut or padded to 8 by the assembler, never by the core (R68). DESIGN CHOICE: R68 says only
"the bytes of `text`" and names no character encoding; the byte of a character is its code point modulo 256, which for
ASCII is its ASCII byte. Log entry 14. -/
def textOperand (text : String) : Payload := pad8 (text.toList.map fun c => BitVec.ofNat 8 c.toNat)

/-- `KSDUMP`: `KSRD 0` to `KSRD 31` (R68). -/
def ksdump : List Instr := (List.finRange 32).map Instr.ksrd

end Sys2Proof.Machine
end

