-- ==== Sys2Proof/Machine/Textbook.lean ====
section
/-!
DEFINITION. The textbook cipher the spec compares its datapath with, and the construction of the `SP` tables from the
standard's boxes: the informative rules R96 (40_tables.md), R130 and R131 (42_block_cipher.md). Nothing the machine
does goes through this file. Textbook position 1 is the most significant bit; positions are written here from 0, so
position `q` of the spec is most-significant-first index `q - 1`.
-/

namespace Sys2Proof.Machine

/-- The standard's substitution boxes `S1` to `S8`, each row by row, 16 columns a row (R96). -/
def sBoxes : Vector (Vector (BitVec 4) 64) 8 :=
  #v[
    #v[
      14, 4, 13, 1, 2, 15, 11, 8, 3, 10, 6, 12, 5, 9, 0, 7,
      0, 15, 7, 4, 14, 2, 13, 1, 10, 6, 12, 11, 9, 5, 3, 8,
      4, 1, 14, 8, 13, 6, 2, 11, 15, 12, 9, 7, 3, 10, 5, 0,
      15, 12, 8, 2, 4, 9, 1, 7, 5, 11, 3, 14, 10, 0, 6, 13],
    #v[
      15, 1, 8, 14, 6, 11, 3, 4, 9, 7, 2, 13, 12, 0, 5, 10,
      3, 13, 4, 7, 15, 2, 8, 14, 12, 0, 1, 10, 6, 9, 11, 5,
      0, 14, 7, 11, 10, 4, 13, 1, 5, 8, 12, 6, 9, 3, 2, 15,
      13, 8, 10, 1, 3, 15, 4, 2, 11, 6, 7, 12, 0, 5, 14, 9],
    #v[
      10, 0, 9, 14, 6, 3, 15, 5, 1, 13, 12, 7, 11, 4, 2, 8,
      13, 7, 0, 9, 3, 4, 6, 10, 2, 8, 5, 14, 12, 11, 15, 1,
      13, 6, 4, 9, 8, 15, 3, 0, 11, 1, 2, 12, 5, 10, 14, 7,
      1, 10, 13, 0, 6, 9, 8, 7, 4, 15, 14, 3, 11, 5, 2, 12],
    #v[
      7, 13, 14, 3, 0, 6, 9, 10, 1, 2, 8, 5, 11, 12, 4, 15,
      13, 8, 11, 5, 6, 15, 0, 3, 4, 7, 2, 12, 1, 10, 14, 9,
      10, 6, 9, 0, 12, 11, 7, 13, 15, 1, 3, 14, 5, 2, 8, 4,
      3, 15, 0, 6, 10, 1, 13, 8, 9, 4, 5, 11, 12, 7, 2, 14],
    #v[
      2, 12, 4, 1, 7, 10, 11, 6, 8, 5, 3, 15, 13, 0, 14, 9,
      14, 11, 2, 12, 4, 7, 13, 1, 5, 0, 15, 10, 3, 9, 8, 6,
      4, 2, 1, 11, 10, 13, 7, 8, 15, 9, 12, 5, 6, 3, 0, 14,
      11, 8, 12, 7, 1, 14, 2, 13, 6, 15, 0, 9, 10, 4, 5, 3],
    #v[
      12, 1, 10, 15, 9, 2, 6, 8, 0, 13, 3, 4, 14, 7, 5, 11,
      10, 15, 4, 2, 7, 12, 9, 5, 6, 1, 13, 14, 0, 11, 3, 8,
      9, 14, 15, 5, 2, 8, 12, 3, 7, 0, 4, 10, 1, 13, 11, 6,
      4, 3, 2, 12, 9, 5, 15, 10, 11, 14, 1, 7, 6, 0, 8, 13],
    #v[
      4, 11, 2, 14, 15, 0, 8, 13, 3, 12, 9, 7, 5, 10, 6, 1,
      13, 0, 11, 7, 4, 9, 1, 10, 14, 3, 5, 12, 2, 15, 8, 6,
      1, 4, 11, 13, 12, 3, 7, 14, 10, 15, 6, 8, 0, 5, 9, 2,
      6, 11, 13, 8, 1, 4, 10, 7, 9, 5, 0, 15, 14, 2, 3, 12],
    #v[
      13, 2, 8, 4, 6, 15, 11, 1, 10, 9, 3, 14, 5, 0, 12, 7,
      1, 15, 13, 8, 10, 3, 7, 4, 12, 5, 6, 11, 0, 14, 9, 2,
      7, 11, 4, 1, 9, 12, 14, 2, 0, 6, 10, 13, 15, 3, 5, 8,
      2, 1, 14, 7, 4, 10, 8, 13, 15, 12, 9, 0, 3, 5, 6, 11]]

/-- The standard's round permutation `P`: output position `t + 1` takes input position `P[t]` (R96). -/
def roundPermutation : Vector Nat 32 :=
  #v[
    16, 7, 20, 21, 29, 12, 28, 17,
    1, 15, 23, 26, 5, 18, 31, 10,
    2, 8, 24, 14, 32, 27, 3, 9,
    19, 13, 30, 6, 22, 11, 4, 25]

/-- The standard's initial permutation `IP`: output position `t + 1` takes input position `IP[t]` (R131). -/
def textbookIP : Vector Nat 64 :=
  #v[
    58, 50, 42, 34, 26, 18, 10, 2,
    60, 52, 44, 36, 28, 20, 12, 4,
    62, 54, 46, 38, 30, 22, 14, 6,
    64, 56, 48, 40, 32, 24, 16, 8,
    57, 49, 41, 33, 25, 17, 9, 1,
    59, 51, 43, 35, 27, 19, 11, 3,
    61, 53, 45, 37, 29, 21, 13, 5,
    63, 55, 47, 39, 31, 23, 15, 7]

/-- The value of box `n + 1` on a 6-bit index: row `2 * i[5] + i[0]`, column `i[4:1]` (R96). -/
def boxRead (n : Fin 8) (i : BitVec 6) : BitVec 4 :=
  let row := 2 * (i.getLsbD 5).toNat + (i.getLsbD 0).toNat
  let col := ((i >>> 1).setWidth 4).toNat
  sBoxes[n].toList.getD (16 * row + col) 0#4

/-- A 4-bit box value at the box's textbook position in a word: `s << (4 * (8 - n))` for box `n` (R96). -/
def placeBox (n : Fin 8) (s : BitVec 4) : Word := s.setWidth 32 <<< (4 * (7 - n.val))

/-- `P` applied to a word in textbook numbering (R96). -/
def permuteP (v : Word) : Word := BitVec.ofFnBE fun t : Fin 32 => v.getMsbD (roundPermutation[t] - 1)

/-- The value R96 constructs for entry `i` of table `SP(n+1)`. -/
def spConstructed (n : Fin 8) (i : BitVec 6) : Word := rotl32 (permuteP (placeBox n (boxRead n i))) 1

/-- The tables `SP1` to `SP8` in order (R86 to R93). -/
def spTables : Vector (Vector Word 64) 8 := #v[SP1, SP2, SP3, SP4, SP5, SP6, SP7, SP8]

/-- Bit `q` (from 0) of two halves read as one 64-bit value, most significant first. -/
def halvesBit (h : Halves) (q : Nat) : Bool :=
  if q < 32 then h.left.getMsbD q else h.right.getMsbD (q - 32)

/-- Two halves from their 64 bits, most significant first. -/
def halvesOfBits (f : Nat → Bool) : Halves :=
  ⟨BitVec.ofFnBE fun t : Fin 32 => f t.val, BitVec.ofFnBE fun t : Fin 32 => f (t.val + 32)⟩

/-- The textbook initial permutation: `(L0, R0)` (R131). -/
def textbookInitial (h : Halves) : Halves := halvesOfBits fun t => halvesBit h (textbookIP.toList.getD t 0 - 1)

/-- The inverse of the textbook initial permutation: output position `IP[t]` takes input position `t + 1`. -/
def textbookFinal (h : Halves) : Halves := halvesOfBits fun q => halvesBit h (textbookIP.toList.idxOf (q + 1))

/-- `bitrev8`: a byte with its 8 bits in reverse order (R130). -/
def bitrev8 (b : Byte) : Byte := BitVec.ofFnBE fun t : Fin 8 => b.getLsbD t.val

/-- Every byte of a key bit-reversed (R130). -/
def bitrevKey (key : Payload) : Payload := key.map bitrev8

/-- Textbook key bit `l + 1`: position 1 is the most significant bit of byte 0. -/
def textbookKeyBit (key : Payload) (l : Fin 64) : Bool := key[l.val / 8].getMsbD (l.val % 8)

/-- The standard's per-round shifts (R83, 93_implementation_defined.md G10). -/
def textbookShifts : List Nat := [1, 1, 2, 2, 2, 2, 2, 2, 1, 2, 2, 2, 2, 2, 2, 1]

/-- The two 28-bit key halves after the shifts listed, each round rotating the previous round's halves. -/
def rotateHalves (shifts : List Nat) (cd : Fin 56 → Bool) : Fin 56 → Bool :=
  shifts.foldl (fun v r j => v (rotIndex r j)) cd

/-- The textbook subkey of round `i`, 48 bits: PC-1, the shifts of rounds 0 to `i`, PC-2 (R81, R82: the textbook
tables are these plus 1). -/
def textbookSubkey (key : Payload) (i : Fin 16) (j : Fin 48) : Bool :=
  rotateHalves (textbookShifts.take (i.val + 1)) (fun j => textbookKeyBit key PC1[j]) PC2[j]

/-- The six bits that meet box `n + 1`: textbook positions `4n` to `4n + 5`, cyclic, exclusive-ORed with the subkey.
PRESUMED: the spec does not print the standard's expansion (95_test_vectors.md TV22); log entry 11. -/
def textbookChunk (r : Word) (k : Fin 48 → Bool) (n : Fin 8) : BitVec 6 :=
  BitVec.ofFnBE fun b : Fin 6 => r.getMsbD ((4 * n.val + 31 + b.val) % 32) ^^ k ⟨6 * n.val + b.val, by omega⟩

/-- The textbook round function: expansion, subkey, boxes, permutation. -/
def textbookF (r : Word) (k : Fin 48 → Bool) : Word :=
  permuteP ((List.finRange 8).foldl (fun w n => w ||| placeBox n (boxRead n (textbookChunk r k n))) 0#32)

/-- One textbook round: `(L, R)` becomes `(R, L ^ f(R, k))`. -/
def textbookRound (k : Fin 48 → Bool) (h : Halves) : Halves := ⟨h.right, h.left ^^^ textbookF h.right k⟩

/-- Textbook DES of one block: initial permutation, sixteen rounds, the last exchange, the inverse permutation.
Decryption uses the subkeys in reverse order. -/
def textbookDes (key block : Payload) (decrypt : Bool) : Payload :=
  let h := (List.finRange 16).foldl (fun h i => textbookRound (textbookSubkey key (slotOf decrypt i)) h)
    (textbookInitial (loadBlock block))
  let out := textbookFinal ⟨h.right, h.left⟩
  emitBlock ⟨out.right, out.left⟩

end Sys2Proof.Machine
end

