-- ==== Sys2Proof/Safety.lean ====
section
/-!
DEFINITION. What claims about this machine call a good state and a reachable one.
-/

namespace Sys2Proof.Machine

/-- Every word of a schedule has bits 31, 30, 23, 22, 15, 14, 7 and 6 equal to 0 (10_state.md R21, 41_key_schedule.md R111). -/
def reservedBitsZero (ks : Schedule) : Prop := ∀ m : Fin 32, ks[m] &&& 0xc0c0c0c0#32 = 0#32

/-- `KS` holds words exactly when `KSV = 1` (R22, R29). -/
def flagAgrees (s : State) : Prop := s.ks.isSome = s.ksv

/-- "on the hardware the only schedules that can be in `KS` are values of `KeySchedule`" (R112). -/
def scheduleFromKey (s : State) : Prop := ∀ ks, s.ks = some ks → ∃ key decrypt, ks = keySchedule key decrypt

/-- The invariant of the machine. -/
def Inv (s : State) : Prop := flagAgrees s ∧ scheduleFromKey s

/-- The inputs that write the architectural state: the two `KSGEN` frames and reset (R21, R22). -/
def writesState : Input → Bool
  | .reset _ => true
  | .frame f => match decode f with
    | .ok (.ksgenE _) => true
    | .ok (.ksgenD _) => true
    | .ok (.xform _) => false
    | .ok (.ksrd _) => false
    | .error _ => false

/-- States that a host can bring the machine to: from reset, by steps and by presenting further inputs. -/
inductive Reachable : State → Prop where
  | reset : Reachable State.reset
  | step {s t : State} (hs : Reachable s) (h : step s = .next t) : Reachable t
  | present {s : State} (hs : Reachable s) (xs : List Input) : Reachable { s with pending := s.pending ++ xs }

end Sys2Proof.Machine
end

