-- ==== Sys2Proof/Certificates/Slice0/Obligations.lean ====
section
/-!
DEFINITION. The statements for the provers. Each docstring names the rule or section of spec/ it formalises.
-/

open Sys2Proof Sys2Proof.Machine

/-! ## The machine: reset, steps, commands -/

/-- 10_state.md section 10: after reset `KSV = 0` and `KS` holds no value. -/
def Obligations.ResetHoldsNoSchedule : Prop :=
  State.reset.ksv = false ∧ State.reset.ks = none

/-- The invariant holds after reset. -/
def Obligations.ResetMeetsInvariant : Prop := Inv State.reset

/-- 10_state.md sections 2, 3 and 41_key_schedule.md section 3 (the schedule in `KS` is a value of `KeySchedule`, present
exactly when `KSV = 1`): every step from every state that meets the invariant keeps it. -/
def Obligations.StepKeepsInvariant : Prop :=
  ∀ s t : State, Inv s → step s = .next t → Inv t

/-- In every state a host can bring the core to, the invariant holds and the words of `KS` have their reserved bits zero. -/
def Obligations.ReachableStatesAreGood : Prop :=
  ∀ s : State, Reachable s → Inv s ∧ ∀ ks, s.ks = some ks → reservedBitsZero ks

/-- 30_encoding.md section 6, 70_reset_and_hazards.md section 3: a frame that decodes to a command is run as that command, the frame
itself taken from the host's pending inputs. -/
def Obligations.StepRunsDecodedCommand : Prop :=
  ∀ (s : State) (f : List Byte) (rest : List Input) (i : Instr),
    s.pending = .frame f :: rest → decode f = .ok i → step s = exec i { s with pending := rest }

/-- 30_encoding.md section 1 gives the byte order of a frame's number. That the numbered frame is put before all pending inputs
(`withFetchWord`) is the model's own reading, log entry 6 (DEDUCED): presenting the number of a command's frame runs
that command. -/
def Obligations.StepRunsPresentedWord : Prop :=
  ∀ (s : State) (i : Instr), step (s.withFetchWord 72 (numberOfBytes (encode i))) = exec i s

/-- 60_exceptions.md sections 1 and 3: a frame the decoder refuses is answered with its fault and changes nothing else. -/
def Obligations.StepAnswersRefusedFrame : Prop :=
  ∀ (s : State) (f : List Byte) (rest : List Input) (code : FaultCode),
    s.pending = .frame f :: rest → decode f = .error code →
      step s = .next { s with pending := rest, responses := s.responses ++ [.fault code] }

/-- 70_reset_and_hazards.md section 1: the reset event, whatever was running when it came; and nothing else clears `KSV`. The
model's choices in it: the later inputs stay pending (log entry 1, DESIGN CHOICE), the earlier responses stay (log entry 2,
DESIGN CHOICE), and the input names the running frame (log entry 4, DEDUCED). -/
def Obligations.ResetEventClearsSchedule : Prop :=
  (∀ (s : State) (running : Option (List Byte)) (rest : List Input),
    s.pending = .reset running :: rest →
      step s = .next { ks := none, ksv := false, pending := rest, responses := s.responses }) ∧
  (∀ s t : State, step s = .next t → s.ksv = true → t.ksv = false →
    ∃ running rest, s.pending = .reset running :: rest)

/-- 93_implementation_defined.md Part A, 70_reset_and_hazards.md section 4: no state and no input stops the machine. -/
def Obligations.StepAlwaysAnswers : Prop := ∀ s : State, ∃ t, step s = .next t

/-- 41_key_schedule.md section 3, `KSGEN.E`: its result in every state, for every key. -/
def Obligations.KsgenEncryptResult : Prop :=
  ∀ (s : State) (key : Payload),
    exec (.ksgenE key) s =
      .next { s with ks := some (keySchedule key false), ksv := true, responses := s.responses ++ [.ok] }

/-- 41_key_schedule.md section 3, `KSGEN.D`: its result in every state, for every key. -/
def Obligations.KsgenDecryptResult : Prop :=
  ∀ (s : State) (key : Payload),
    exec (.ksgenD key) s =
      .next { s with ks := some (keySchedule key true), ksv := true, responses := s.responses ++ [.ok] }

/-- 42_block_cipher.md section 2, `XFORM`: its result when there is a schedule; nothing but the response changes. -/
def Obligations.XformResult : Prop :=
  ∀ (s : State) (block : Payload) (ks : Schedule), s.ksv = true → s.ks = some ks →
    exec (.xform block) s = .next { s with responses := s.responses ++ [.block (transform block ks)] }

/-- 41_key_schedule.md section 3, `KSRD`: its result when there is a schedule; nothing but the response changes. -/
def Obligations.KsrdResult : Prop :=
  ∀ (s : State) (idx : Fin 32) (ks : Schedule), s.ksv = true → s.ks = some ks →
    exec (.ksrd idx) s = .next { s with responses := s.responses ++ [.word ks[idx]] }

/-- R153: `XFORM` and `KSRD` answer `NoSchedule` when `KSV = 0`, whatever `KS` is, and change no state. -/
def Obligations.NoScheduleAnswer : Prop :=
  ∀ (s : State) (block : Payload) (idx : Fin 32), s.ksv = false →
    exec (.xform block) s = .next { s with responses := s.responses ++ [.fault .noSchedule] } ∧
    exec (.ksrd idx) s = .next { s with responses := s.responses ++ [.fault .noSchedule] }

/-- R66: a frame gets exactly one response, of the kind its command gives. -/
def Obligations.OneResponsePerFrame : Prop :=
  ∀ (s : State) (f : List Byte) (rest : List Input), s.pending = .frame f :: rest →
    ∃ (r : Response) (t : State), step s = .next t ∧ t.responses = s.responses ++ [r] ∧ t.pending = rest ∧
      (r = .ok ↔ ∃ key, decode f = .ok (.ksgenE key) ∨ decode f = .ok (.ksgenD key)) ∧
      ((∃ b, r = .block b) → ∃ block, decode f = .ok (.xform block)) ∧
      ((∃ w, r = .word w) → ∃ idx, decode f = .ok (.ksrd idx)) ∧
      (∀ code, decode f = .error code → r = .fault code)

/-- R154: the order of the three faults. -/
def Obligations.FaultPriority : Prop :=
  ∀ (s : State) (f : List Byte) (rest : List Input), s.pending = .frame f :: rest →
    (f.length ≠ 9 →
      step s = .next { s with pending := rest, responses := s.responses ++ [.fault .lengthMismatch] }) ∧
    (f.length = 9 → frameWellFormed f = false →
      step s = .next { s with pending := rest, responses := s.responses ++ [.fault .illegalCommand] }) ∧
    (s.ksv = false → ∀ block, f = encode (.xform block) →
      step s = .next { s with pending := rest, responses := s.responses ++ [.fault .noSchedule] }) ∧
    (s.ksv = false → ∀ idx, f = encode (.ksrd idx) →
      step s = .next { s with pending := rest, responses := s.responses ++ [.fault .noSchedule] })

/-- R155: a fault response is the only effect of its frame: `KS` and `KSV` are exactly as before, and so is all that follows. -/
def Obligations.FaultChangesNoState : Prop :=
  ∀ (s t : State) (code : FaultCode), step s = .next t → t.responses = s.responses ++ [.fault code] →
    t.ks = s.ks ∧ t.ksv = s.ksv ∧
    t = { s with pending := s.pending.tail, responses := s.responses ++ [.fault code] }

/-- 10_state.md section 10: what a step can do to the architectural state: leave it, reset it, or write all of it. That a
completed `KSGEN` does write, and a reset does reset, is in `KsgenEncryptResult`, `KsgenDecryptResult` and
`ResetEventClearsSchedule`. -/
def Obligations.StateIsNeverPartlyWritten : Prop :=
  ∀ s t : State, step s = .next t →
    (t.ks = s.ks ∧ t.ksv = s.ksv) ∨
    (∃ running rest, s.pending = .reset running :: rest ∧ t.ks = State.reset.ks ∧ t.ksv = State.reset.ksv) ∨
    (∃ f rest key decrypt, s.pending = .frame f :: rest ∧ decode f = .ok (ksgen decrypt key) ∧
      t.ks = some (keySchedule key decrypt) ∧ t.ksv = true ∧ t.responses = s.responses ++ [.ok])

/-- R70: a command cannot change which command comes next. -/
def Obligations.CommandKeepsLaterInputs : Prop :=
  ∀ (i : Instr) (s t : State), exec i s = .next t → t.pending = s.pending

/-- 41_key_schedule.md section 3: after `KSGEN.D K` the state equals the state after `KSGEN.E K` with the sixteen pairs in
reverse order, and neither depends on the schedule that was there before. -/
def Obligations.KsgenModesMirror : Prop :=
  ∀ (s s' t u : State) (key : Payload), s'.pending = s.pending → s'.responses = s.responses →
    exec (.ksgenE key) s = .next t → exec (.ksgenD key) s' = .next u →
      u = { t with ks := t.ks.map revSchedule }

/-- 70_reset_and_hazards.md section 3, 20_memory.md section 6: inputs that are not a `KSGEN` or a reset leave the schedule as it is,
however many there are. -/
def Obligations.ScheduleSurvivesReads : Prop :=
  ∀ (xs : List Input) (s : State), (∀ x ∈ xs, writesState x = false) →
    ∃ t, core.run xs.length { s with pending := xs } = .next t ∧ t.ks = s.ks ∧ t.ksv = s.ksv ∧
      t.pending = [] ∧ t.responses.length = s.responses.length + xs.length

/-- 20_memory.md section 6: an `XFORM` or `KSRD` uses the schedule of the latest `KSGEN` before it in issue order, whatever came
before that and whatever reads stand between. -/
def Obligations.ReadsUseLatestSchedule : Prop :=
  ∀ (before between : List Input) (key block : Payload) (decrypt : Bool) (idx : Fin 32) (s : State),
    (∀ x ∈ between, writesState x = false) →
    ∃ (t : State) (earlier : List Response),
      core.run (before.length + between.length + 3)
        { s with pending := before ++ .frame (encode (ksgen decrypt key)) :: between ++
            [.frame (encode (.xform block)), .frame (encode (.ksrd idx))] } = .next t ∧
      t.responses = earlier ++
        [.block (transform block (keySchedule key decrypt)), .word (keySchedule key decrypt)[idx]]

/-- 10_state.md section 10, 70_reset_and_hazards.md section 1: while `KSV = 0` the contents of `KS` cannot be observed, by any inputs and
in any number of steps. -/
def Obligations.UnsetScheduleIsUnobservable : Prop :=
  ∀ (n : Nat) (s : State) (ks' : Option Schedule), s.ksv = false →
    ∃ t t', core.run n s = .next t ∧ core.run n { s with ks := ks' } = .next t' ∧
      t.responses = t'.responses ∧ t.pending = t'.pending ∧ t.ksv = t'.ksv

/-- 42_block_cipher.md section 3 (one block, no memory): the answer to a block does not depend on the blocks before it. -/
def Obligations.BlocksAreIndependent : Prop :=
  ∀ (s t : State) (earlier block : Payload), exec (.xform earlier) s = .next t →
    ∃ u v r, exec (.xform block) s = .next u ∧ exec (.xform block) t = .next v ∧
      u.responses = s.responses ++ [r] ∧ v.responses = t.responses ++ [r] ∧ v.ks = s.ks ∧ v.ksv = s.ksv

/-- 42_block_cipher.md sections 2, 3: what one mode's schedule made of a block, the other mode's schedule undoes on the core. -/
def Obligations.CoreUndoesItsOwnXform : Prop :=
  ∀ (s t : State) (key block : Payload) (decrypt : Bool),
    s.ksv = true → s.ks = some (keySchedule key decrypt) →
    t.ksv = true → t.ks = some (keySchedule key (!decrypt)) →
    ∃ out s' t', exec (.xform block) s = .next s' ∧ s'.responses = s.responses ++ [.block out] ∧
      exec (.xform out) t = .next t' ∧ t'.responses = t.responses ++ [.block block]

/-! ## Encoding -/

/-- 95_test_vectors.md: sample frames decode as the spec lists them, the first in TV18, the third in TV15 (section 8), the
others in TV12 (section 6). -/
def Obligations.SampleFramesDecode : Prop :=
  decode (frameOfNumber 0x000123456789abcdef) = .ok (.ksgenE #v[0x01, 0x23, 0x45, 0x67, 0x89, 0xab, 0xcd, 0xef]) ∧
  decode (frameOfNumber 0x01ffffffffffffffff) = .ok (.ksgenD #v[0xff, 0xff, 0xff, 0xff, 0xff, 0xff, 0xff, 0xff]) ∧
  decode (frameOfNumber 0x0270617373776f7264) = .ok (.xform #v[0x70, 0x61, 0x73, 0x73, 0x77, 0x6f, 0x72, 0x64]) ∧
  decode (frameOfNumber 0x031f00000000000000) = .ok (.ksrd 31) ∧
  decode (frameOfNumber 0x032000000000000000) = .error .illegalCommand ∧
  decode (frameOfNumber 0x030000000000000080) = .error .illegalCommand ∧
  decode (frameOfNumber 0x040000000000000000) = .error .illegalCommand ∧
  decode [0xff#8] = .error .lengthMismatch

/-- 30_encoding.md sections 1, 2 and 6: decoding the frame of a command gives it back, for every command and every operand. -/
def Obligations.DecodeOfEncode : Prop := ∀ i : Instr, decode (encode i) = .ok i

/-- The other direction: a frame that decodes to a command is that command's frame, so each command has one frame. -/
def Obligations.EncodeOfDecode : Prop := ∀ (f : List Byte) (i : Instr), decode f = .ok i → encode i = f

/-- R151: `LengthMismatch` for exactly the byte strings that are not 9 bytes long, the empty one among them, whatever
their bytes, and no state changes. -/
def Obligations.LengthMismatchExactly : Prop :=
  (∀ f : List Byte, decode f = .error .lengthMismatch ↔ f.length ≠ 9) ∧
  (∀ (s : State) (f : List Byte) (rest : List Input), s.pending = .frame f :: rest → f.length ≠ 9 →
    step s = .next { s with pending := rest, responses := s.responses ++ [.fault .lengthMismatch] })

/-- R64, R152: the reserved encodings are refused and change no state, and the decoder refuses nothing else of 9 bytes. -/
def Obligations.ReservedEncodingsRefused : Prop :=
  (∀ (op : Byte) (p : Payload),
    decode (op :: p.toList) = .error .illegalCommand ↔
      0x04#8 ≤ op ∨ (op = 0x03#8 ∧ (p[0] &&& 0xe0#8 ≠ 0#8 ∨ ∃ k : Fin 8, k ≠ 0 ∧ p[k] ≠ 0#8))) ∧
  (∀ (s : State) (op : Byte) (p : Payload) (rest : List Input), s.pending = .frame (op :: p.toList) :: rest →
    (0x04#8 ≤ op ∨ (op = 0x03#8 ∧ (p[0] &&& 0xe0#8 ≠ 0#8 ∨ ∃ k : Fin 8, k ≠ 0 ∧ p[k] ≠ 0#8))) →
    step s = .next { s with pending := rest, responses := s.responses ++ [.fault .illegalCommand] })

/-- spec/opcode_table.json: the decoder takes exactly the frames whose number matches a row, and the row is the command's. -/
def Obligations.DecodeFollowsOpcodeTable : Prop :=
  (∀ f : List Byte, (∃ i, decode f = .ok i) ↔
    f.length = 9 ∧ ∃ r ∈ opcodeTable, rowMatches r (numberOfBytes f) = true) ∧
  (∀ (f : List Byte) (i : Instr), decode f = .ok i → ∀ r ∈ opcodeTable,
    rowMatches r (numberOfBytes f) = true ↔ r.mnemonic = instrMnemonic i)

/-- The checks on frames (WellFormed.lean) say what the decoder accepts. -/
def Obligations.DecoderTakesWellFormedFrames : Prop :=
  ∀ f : List Byte, (∃ i, decode f = .ok i) ↔ frameWellFormed f = true

/-- 20_memory.md section 2: frame byte `k + 1` is `key[k]` or `block[k]`. -/
def Obligations.FrameBytesAreOperandBytes : Prop :=
  ∀ (f : List Byte) (p : Payload),
    (decode f = .ok (.ksgenE p) ∨ decode f = .ok (.ksgenD p) ∨ decode f = .ok (.xform p)) →
      ∀ k : Fin 8, f[k.val + 1]? = some p[k]

/-! ## The tables -/

/-- R94: the eight `SP` tables write disjoint bits, so OR, exclusive OR and sum of one entry from each agree. -/
def Obligations.SubstitutionTablesWriteDisjointBits : Prop :=
  let masks : Vector Word 8 := #v[0x01010404, 0x80108020, 0x08020208, 0x00802081, 0x42080100, 0x20404010, 0x04200802, 0x10041040]
  (∀ n : Fin 8, spTables[n].foldl (· ||| ·) 0#32 = masks[n]) ∧
  (∀ n : Fin 8, ((List.range 32).filter (masks[n].getLsbD ·)).length = 4) ∧
  (∀ m n : Fin 8, m ≠ n → masks[m] &&& masks[n] = 0#32) ∧
  masks.foldl (· ||| ·) 0#32 = 0xffffffff#32 ∧
  (∀ n : Fin 8, ∀ w : Word, w &&& ~~~masks[n] = 0#32 → spTables[n].toList.count w = 4) ∧
  (∀ g : Fin 8 → BitVec 6,
    let entries := (List.finRange 8).map fun n => spRead spTables[n] (g n)
    entries.foldl (· ||| ·) 0#32 = entries.foldl (· ^^^ ·) 0#32 ∧
    entries.foldl (· ||| ·) 0#32 = entries.foldl (· + ·) 0#32)

/-- 40_tables.md section 4: the 512 values are those the standard's boxes and permutation give. -/
def Obligations.SubstitutionTablesFromBoxes : Prop :=
  ∀ (n : Fin 8) (i : BitVec 6), spRead spTables[n] i = spConstructed n i

/-- 40_tables.md section 2: the mask tables by formula, the rotation totals from the standard's shifts. -/
def Obligations.MaskAndRotationTables : Prop :=
  (∀ m : Fin 8, BYTEBIT[m] = 1#8 <<< m.val) ∧
  (∀ j : Fin 24, BIGBYTE[j] = 1#32 <<< (23 - j.val)) ∧
  (∀ i : Fin 16, TOTROT[i] = ((textbookShifts.take (i.val + 1)).sum))

/-! ## The key schedule -/

/-- R42, R101: key bit selection, least significant bit of each byte first, and the bit no selection reaches. -/
def Obligations.PermutedChoiceOneSelects : Prop :=
  (∀ (key : Payload) (l : Fin 64), keyBit key l = key[l.val / 8].getLsbD (l.val % 8)) ∧
  (∀ (key : Payload) (j : Fin 56), pc1m key j = keyBit key PC1[j]) ∧
  (∀ j : Fin 56, PC1[j].val % 8 ≠ 7) ∧
  (∀ l : Fin 64, l.val % 8 ≠ 7 → ∃ j : Fin 56, PC1[j] = l) ∧
  (∀ key : Payload, pc1m key 0 = key[7].getLsbD 0 ∧ pc1m key 7 = key[0].getLsbD 0 ∧ pc1m key 55 = key[0].getLsbD 3)

/-- R102: each half rotates on its own by the total of the round, in the form of the pseudocode (one subtraction of 28)
and in the form of the rule (modulo 28). -/
def Obligations.RotationOfHalves : Prop :=
  ∀ (key : Payload) (i : Fin 16) (j : Fin 56), ∃ l : Fin 56,
    pcr key i j = pc1m key l ∧
    l.val = (if j.val < 28 then (if j.val + TOTROT[i] < 28 then j.val + TOTROT[i] else j.val + TOTROT[i] - 28)
      else (if j.val + TOTROT[i] < 56 then j.val + TOTROT[i] else j.val + TOTROT[i] - 28)) ∧
    l.val = (if j.val < 28 then (j.val + TOTROT[i]) % 28 else 28 + (j.val - 28 + TOTROT[i]) % 28) ∧
    (l.val < 28 ↔ j.val < 28)

/-- R103: where each round's pair goes, in both modes, that every position is written exactly once, and that a raw word
with no bit selected is 0. -/
def Obligations.PlacementOfRounds : Prop :=
  (∀ i : Fin 16, (slotOf false i).val = i.val ∧ (slotOf true i).val = 15 - i.val) ∧
  (∀ (key : Payload) (decrypt : Bool) (i : Fin 16),
    (keySchedule key decrypt)[2 * (slotOf decrypt i).val] = cookEven (rawEven key i) (rawOdd key i) ∧
    (keySchedule key decrypt)[2 * (slotOf decrypt i).val + 1] = cookOdd (rawEven key i) (rawOdd key i)) ∧
  (∀ (decrypt : Bool) (m : Fin 32), ∃! i : Fin 16,
    m.val = 2 * (slotOf decrypt i).val ∨ m.val = 2 * (slotOf decrypt i).val + 1) ∧
  selectWord (fun _ => false) = 0#32

/-- 41_key_schedule.md section 1 (step 4): the bits of the two raw words of a round, and which half of the rotated vector each depends on. -/
def Obligations.RawSubkeyBits : Prop :=
  (∀ (key : Payload) (i : Fin 16) (j : Fin 24),
    (rawEven key i).getLsbD (23 - j.val) = pcr key i PC2[j.val] ∧
    (rawOdd key i).getLsbD (23 - j.val) = pcr key i PC2[j.val + 24]) ∧
  (∀ (key : Payload) (i : Fin 16) (n : Nat), 24 ≤ n →
    (rawEven key i).getLsbD n = false ∧ (rawOdd key i).getLsbD n = false) ∧
  (∀ j : Fin 24, PC2[j.val].val < 28 ∧ 28 ≤ PC2[j.val + 24].val)

/-- 41_key_schedule.md section 1 (step 5): the field table of the layout step. -/
def Obligations.LayoutFields : Prop :=
  ∀ raw0 raw1 : Word,
    sixBits (cookEven raw0 raw1) 24 = sixBits raw0 18 ∧ sixBits (cookEven raw0 raw1) 16 = sixBits raw0 6 ∧
    sixBits (cookEven raw0 raw1) 8 = sixBits raw1 18 ∧ sixBits (cookEven raw0 raw1) 0 = sixBits raw1 6 ∧
    sixBits (cookOdd raw0 raw1) 24 = sixBits raw0 12 ∧ sixBits (cookOdd raw0 raw1) 16 = sixBits raw0 0 ∧
    sixBits (cookOdd raw0 raw1) 8 = sixBits raw1 12 ∧ sixBits (cookOdd raw0 raw1) 0 = sixBits raw1 0 ∧
    cookEven raw0 raw1 &&& 0xc0c0c0c0#32 = 0#32 ∧ cookOdd raw0 raw1 &&& 0xc0c0c0c0#32 = 0#32

/-- R111: the zero bits of every schedule word. -/
def Obligations.ScheduleWordsHaveZeroBits : Prop :=
  ∀ (key : Payload) (decrypt : Bool),
    reservedBitsZero (keySchedule key decrypt) ∧ ∀ m : Fin 32, (keySchedule key decrypt)[m] ≤ 0x3f3f3f3f#32

/-- 41_key_schedule.md section 2 (b): the two modes hold the same pairs in reverse order. -/
def Obligations.ModeRelationship : Prop :=
  ∀ (key : Payload) (i : Fin 16) (k : Fin 2),
    (keySchedule key true)[2 * (15 - i.val) + k.val] = (keySchedule key false)[2 * i.val + k.val]

/-- 41_key_schedule.md section 2 (c): bit 7 of each key byte has no effect, and the other 56 bits each matter. -/
def Obligations.ScheduleIgnoresExactlyBitSeven : Prop :=
  ∀ (key key' : Payload) (decrypt : Bool),
    keySchedule key decrypt = keySchedule key' decrypt ↔ ∀ k : Fin 8, key[k] &&& 0x7f#8 = key'[k] &&& 0x7f#8

/-- 41_key_schedule.md section 2 (d): a key whose two halves are constant has sixteen equal pairs and one schedule for both
modes; the keys whose low seven bits of every byte are all 0 or all 1 are such keys. -/
def Obligations.SelfInverseKeys : Prop :=
  (∀ key : Payload, (∀ j j' : Fin 56, (j.val < 28 ↔ j'.val < 28) → pc1m key j = pc1m key j') →
    keySchedule key false = keySchedule key true ∧
    ∀ i i' : Fin 16, roundWord key i false = roundWord key i' false ∧ roundWord key i true = roundWord key i' true) ∧
  (∀ key : Payload, ((∀ k : Fin 8, key[k] &&& 0x7f#8 = 0#8) ∨ (∀ k : Fin 8, key[k] &&& 0x7f#8 = 0x7f#8)) →
    keySchedule key false = keySchedule key true)

/-! ## The block cipher -/

/-- R41: big-endian load and store, bit by bit, the right half first on output. -/
def Obligations.BlockByteOrder : Prop :=
  ∀ (b : Payload) (h : Halves) (k : Fin 4) (n : Fin 8),
    (loadBlock b).left.getLsbD (8 * (3 - k.val) + n.val) = b[k.val].getLsbD n.val ∧
    (loadBlock b).right.getLsbD (8 * (3 - k.val) + n.val) = b[k.val + 4].getLsbD n.val ∧
    (emitBlock h)[k.val].getLsbD n.val = h.right.getLsbD (8 * (3 - k.val) + n.val) ∧
    (emitBlock h)[k.val + 4].getLsbD n.val = h.left.getLsbD (8 * (3 - k.val) + n.val)

/-- 42_block_cipher.md section 1 (step 2): each exchange line is its own inverse, and the whole step moves the 64 bits by a
permutation of their places. -/
def Obligations.InitialPermutationMovesBits : Prop :=
  (∀ h, exchangeLeft 4 0x0f0f0f0f#32 (exchangeLeft 4 0x0f0f0f0f#32 h) = h) ∧
  (∀ h, exchangeLeft 16 0x0000ffff#32 (exchangeLeft 16 0x0000ffff#32 h) = h) ∧
  (∀ h, exchangeRight 2 0x33333333#32 (exchangeRight 2 0x33333333#32 h) = h) ∧
  (∀ h, exchangeRight 8 0x00ff00ff#32 (exchangeRight 8 0x00ff00ff#32 h) = h) ∧
  (∀ h, exchangeSame 0xaaaaaaaa#32 (exchangeSame 0xaaaaaaaa#32 h) = h) ∧
  (∃ place : Equiv.Perm (Fin 64), ∀ (h : Halves) (q : Fin 64),
    halvesBit (initialPermutation h) q.val = halvesBit h (place q).val)

/-- 42_block_cipher.md section 1 (step 4): the law of the final permutation. -/
def Obligations.FinalPermutationUndoesInitial : Prop :=
  ∀ h : Halves,
    finalPermutation ⟨(initialPermutation h).right, (initialPermutation h).left⟩ = ⟨h.right, h.left⟩

/-- 42_block_cipher.md section 1 (step 5): the output block, loaded again and permuted, is the pair of halves after round 15 in
exchanged order. -/
def Obligations.OutputHalvesAreExchanged : Prop :=
  ∀ (block : Payload) (ks : Schedule),
    let last := cipherRounds ks (initialPermutation (loadBlock block))
    initialPermutation (loadBlock (transform block ks)) = ⟨last.right, last.left⟩

/-- 42_block_cipher.md section 1 (step 3): a round changes only the half it does not read, and doing it twice undoes it. -/
def Obligations.RoundChangesOneHalf : Prop :=
  ∀ (ks : Schedule) (i : Fin 16) (h : Halves),
    (i.val % 2 = 0 → (cipherRound ks i h).right = h.right ∧
      (cipherRound ks i h).left = h.left ^^^ roundF h.right ks[2 * i.val] ks[2 * i.val + 1]) ∧
    (i.val % 2 = 1 → (cipherRound ks i h).left = h.left ∧
      (cipherRound ks i h).right = h.right ^^^ roundF h.left ks[2 * i.val] ks[2 * i.val + 1]) ∧
    cipherRound ks i (cipherRound ks i h) = h

/-- 93_implementation_defined.md U7: `Transform` is defined on every 32 words and ignores bits 31, 30, 23, 22, 15, 14, 7 and 6 of each. -/
def Obligations.TransformIgnoresReservedBits : Prop :=
  ∀ (block : Payload) (ks : Schedule), transform block ks = transform block (ks.map (· &&& 0x3f3f3f3f#32))

/-- R128: the round trip, for any 32 words and for both modes of every key. -/
def Obligations.RoundTrip : Prop :=
  (∀ (block : Payload) (ks : Schedule), transform (transform block ks) (revSchedule ks) = block) ∧
  (∀ (ks : Schedule) (i : Fin 16) (k : Fin 2),
    (revSchedule ks)[2 * (15 - i.val) + k.val] = ks[2 * i.val + k.val]) ∧
  (∀ key block : Payload,
    transform (transform block (keySchedule key false)) (keySchedule key true) = block ∧
    transform (transform block (keySchedule key true)) (keySchedule key false) = block)

/-- 95_test_vectors.md TV1: the document's known-answer vector. -/
def Obligations.KnownAnswerVector : Prop :=
  transform #v[0x01, 0x23, 0x45, 0x67, 0x89, 0xab, 0xcd, 0xef]
      (keySchedule #v[0x01, 0x23, 0x45, 0x67, 0x89, 0xab, 0xcd, 0xef] false) =
    #v[0x6e, 0x09, 0xa3, 0x77, 0x26, 0xdd, 0x56, 0x0c]

/-- 42_block_cipher.md section 3 (textbook terms): steps 2 and 4 in textbook terms. -/
def Obligations.PermutationsInTextbookTerms : Prop :=
  (∀ h : Halves, initialPermutation h =
    ⟨rotl32 (textbookInitial h).left 1, rotl32 (textbookInitial h).right 1⟩) ∧
  (∀ h : Halves, finalPermutation ⟨rotl32 h.left 1, rotl32 h.right 1⟩ =
    ⟨(textbookFinal ⟨h.right, h.left⟩).right, (textbookFinal ⟨h.right, h.left⟩).left⟩)

/-- 42_block_cipher.md section 3 (relation to textbook DES): the core computes textbook DES under the key whose every byte is
bit-reversed, in both modes. It rests on log entry 11: the standard's expansion, which the spec does not print, is
PRESUMED in `textbookChunk`. -/
def Obligations.CoreIsTextbookDes : Prop :=
  ∀ (key block : Payload) (decrypt : Bool),
    transform block (keySchedule key decrypt) = textbookDes (bitrevKey key) block decrypt

/-- 95_test_vectors.md TV10: complementing every key bit and every block bit complements the output. -/
def Obligations.Complementation : Prop :=
  ∀ (key block : Payload) (decrypt : Bool),
    transform (block.map (~~~·)) (keySchedule (key.map (~~~·)) decrypt) =
      (transform block (keySchedule key decrypt)).map (~~~·)

/-! ## The host's password operations -/

/-- 43_password_ops.md, `encrypt_password`: a password is cut to 8 bytes and zero-padded. -/
def Obligations.PasswordsAreCutAndPadded : Prop :=
  (∀ (fk : Payload) (p q : List Byte), p.take 8 = q.take 8 → encryptPassword fk p = encryptPassword fk q) ∧
  (∀ (fk : Payload) (p : List Byte) (n : Nat),
    encryptPassword fk (p ++ List.replicate n 0#8) = encryptPassword fk p)

/-- 43_password_ops.md, `decrypt_password`: it undoes `encrypt_password` up to padding, and takes only 8 bytes. -/
def Obligations.PasswordRoundTrip : Prop :=
  (∀ (fk : Payload) (p : List Byte), decryptPassword fk (encryptPassword fk p).toList = some (pad8 p)) ∧
  (∀ (fk : Payload) (c : List Byte), decryptPassword fk c = none ↔ c.length ≠ 8)

/-- 43_password_ops.md, `generate_challenge_response`: the two blocks are answered independently, a challenge that is
not 16 bytes is rejected, and the top bits of the password characters do not matter. -/
def Obligations.ChallengeResponseBlocks : Prop :=
  (∀ (pw : List Byte) (c0 c1 : Payload), challengeResponse pw (c0.toList ++ c1.toList) =
    some ((transform c0 (keySchedule (pad8 pw) false)).toList ++ (transform c1 (keySchedule (pad8 pw) false)).toList)) ∧
  (∀ (pw ch : List Byte), challengeResponse pw ch = none ↔ ch.length ≠ 16) ∧
  (∀ (pw pw' ch : List Byte), (∀ k : Fin 8, (pad8 pw)[k] &&& 0x7f#8 = (pad8 pw')[k] &&& 0x7f#8) →
    challengeResponse pw ch = challengeResponse pw' ch)
end

