-- ==== Sys2Proof/Laws/Bits.lean ====
section
/-!
SUPPORT. The bits of what the word operations give.
-/

namespace Sys2Proof.Machine

theorem getLsbD_sixBits (w : Word) (s n : Nat) : (sixBits w s).getLsbD n = (decide (n < 6) && w.getLsbD (s + n)) := by
  simp [sixBits, BitVec.getLsbD_setWidth]

theorem getLsbD_byteBE (w : Word) (k : Fin 4) (n : Nat) :
    (byteBE w k).getLsbD n = (decide (n < 8) && w.getLsbD (8 * (3 - k.val) + n)) := by
  simp [byteBE, BitVec.getLsbD_setWidth]

theorem rotl32_one (a : Word) : rotl32 a 1 = a.rotateLeft 1 := by
  simp [rotl32, BitVec.rotateLeft, BitVec.rotateLeftAux]

theorem rotr32_one (a : Word) : rotr32 a 1 = a.rotateRight 1 := by
  simp [rotr32, rotl32, BitVec.rotateRight, BitVec.rotateRightAux, BitVec.or_comm]

theorem rotr32_four (a : Word) : rotr32 a 4 = a.rotateRight 4 := by
  simp [rotr32, rotl32, BitVec.rotateRight, BitVec.rotateRightAux, BitVec.or_comm]

/-- The bits of a fold that ORs in the words of the selected entries. -/
theorem getLsbD_foldl_or (selected : Fin 24 → Bool) (weight : Fin 24 → Word) (n : Nat) (l : List (Fin 24)) (w : Word) :
    (l.foldl (fun w j => if selected j then w ||| weight j else w) w).getLsbD n =
      (w.getLsbD n || l.any fun j => selected j && (weight j).getLsbD n) := by
  induction l generalizing w with
  | nil => simp
  | cons j l ih =>
    rw [List.foldl_cons, ih]
    cases h : selected j <;> simp [h, Bool.or_assoc]

theorem getLsbD_selectWord (selected : Fin 24 → Bool) (n : Nat) :
    (selectWord selected).getLsbD n = (List.finRange 24).any fun j => selected j && BIGBYTE[j].getLsbD n := by
  rw [selectWord, getLsbD_foldl_or]
  simp

theorem spRead_eq_getElem (t : Vector Word 64) (g : BitVec 6) : spRead t g = t[g.toNat] := rfl

/-- Loading what was emitted gives the halves back in exchanged order (R41). -/
theorem loadBlock_emitBlock (h : Halves) : loadBlock (emitBlock h) = ⟨h.right, h.left⟩ := by
  have bytes (w : Word) : be32 (byteBE w 0) (byteBE w 1) (byteBE w 2) (byteBE w 3) = w := by
    apply BitVec.eq_of_getLsbD_eq
    intro i hi
    have hi' : i < 8 ∨ (8 ≤ i ∧ i < 16) ∨ (16 ≤ i ∧ i < 24) ∨ 24 ≤ i := by omega
    simp only [be32, BitVec.getLsbD_or, BitVec.getLsbD_shiftLeft, BitVec.getLsbD_setWidth, getLsbD_byteBE]
    rcases hi' with h1 | ⟨h1, h2⟩ | ⟨h1, h2⟩ | h1
    · simp [show i < 24 by omega, show i < 16 by omega, h1, hi]
    · simp [show i < 24 by omega, h2, show ¬ i < 8 by omega, show i - 8 < 8 by omega, show i - 8 < 32 by omega, hi, show 8 + (i - 8) = i by omega]
    · simp [h2, show ¬ i < 16 by omega, show ¬ i < 8 by omega, show ¬ i - 8 < 8 by omega, show i - 16 < 8 by omega, show i - 16 < 32 by omega, hi,
        show 16 + (i - 16) = i by omega]
    · simp [show ¬ i < 24 by omega, show ¬ i < 16 by omega, show ¬ i < 8 by omega, show ¬ i - 8 < 8 by omega,
        show ¬ i - 16 < 8 by omega, show i - 24 < 8 by omega, show i - 24 < 32 by omega, hi, show 24 + (i - 24) = i by omega]
  simp [loadBlock, emitBlock, bytes]

end Sys2Proof.Machine
end

