-- ==== Sys2Proof/Laws/Decode.lean ====
section
/-!
SUPPORT. Frames of 9 bytes as an opcode and a payload, and the two directions of the `KSRD` index byte.
-/

namespace Sys2Proof

theorem frame_split {f : List Byte} (h : f.length = Config.frameBytes) :
    ∃ (op : Byte) (p : Payload), f = op :: p.toList := by
  match f, h with
  | op :: rest, h => exact ⟨op, ⟨rest.toArray, by simpa [Config.frameBytes] using h⟩, by simp [Vector.toList]⟩

theorem decode_of_length {f : List Byte} (h : f.length ≠ Config.frameBytes) : decode f = .error .lengthMismatch := by
  simp [decode, h]

theorem decode_cons (op : Byte) (p : Payload) : decode (op :: p.toList) = decodeFields op p := by
  have h : (op :: p.toList).length = Config.frameBytes := by simp [Config.frameBytes]
  simp only [decode, h, dite_true]
  rfl

/-- The reserved bytes `p[1] .. p[7]` are all zero exactly when their OR is. -/
theorem reservedBytes_zero (p : Payload) :
    p[1] ||| p[2] ||| p[3] ||| p[4] ||| p[5] ||| p[6] ||| p[7] = 0#8 ↔ ∀ k : Fin 8, k ≠ 0 → p[k] = 0#8 := by
  constructor
  · intro h k hk
    simp only [BitVec.or_eq_zero_iff] at h
    obtain ⟨⟨⟨⟨⟨⟨h1, h2⟩, h3⟩, h4⟩, h5⟩, h6⟩, h7⟩ := h
    fin_cases k
    · exact absurd rfl hk
    all_goals assumption
  · intro h
    simp only [BitVec.or_eq_zero_iff]
    exact ⟨⟨⟨⟨⟨⟨h 1 (by decide), h 2 (by decide)⟩, h 3 (by decide)⟩, h 4 (by decide)⟩, h 5 (by decide)⟩, h 6 (by decide)⟩,
      h 7 (by decide)⟩

theorem ofNat_indexOf : ∀ b : Byte, b &&& 0xe0#8 = 0#8 → BitVec.ofNat 8 (indexOf b).val = b := by decide +kernel

theorem indexOf_ofNat : ∀ i : Fin 32, indexOf (BitVec.ofNat 8 i.val) = i ∧ BitVec.ofNat 8 i.val &&& 0xe0#8 = 0#8 := by
  decide +kernel

end Sys2Proof
end

