-- ==== Sys2Proof/Laws/State.lean ====
section
/-!
SUPPORT. One lemma per field of State and update of it, each true by rfl, so that no later proof unfolds a record update.
-/

namespace Sys2Proof.Machine

@[simp] theorem setKsv_ks (s : State) : (setKsv s).ks = s.ks := rfl
@[simp] theorem setKsv_ksv (s : State) : (setKsv s).ksv = true := rfl
@[simp] theorem setKsv_pending (s : State) : (setKsv s).pending = s.pending := rfl
@[simp] theorem setKsv_responses (s : State) : (setKsv s).responses = s.responses := rfl

@[simp] theorem clearKsv_ks (s : State) : (clearKsv s).ks = s.ks := rfl
@[simp] theorem clearKsv_ksv (s : State) : (clearKsv s).ksv = false := rfl
@[simp] theorem clearKsv_pending (s : State) : (clearKsv s).pending = s.pending := rfl
@[simp] theorem clearKsv_responses (s : State) : (clearKsv s).responses = s.responses := rfl

@[simp] theorem writeSchedule_ks (v : Schedule) (s : State) : (writeSchedule v s).ks = some v := rfl
@[simp] theorem writeSchedule_ksv (v : Schedule) (s : State) : (writeSchedule v s).ksv = s.ksv := rfl
@[simp] theorem writeSchedule_pending (v : Schedule) (s : State) : (writeSchedule v s).pending = s.pending := rfl
@[simp] theorem writeSchedule_responses (v : Schedule) (s : State) : (writeSchedule v s).responses = s.responses := rfl

@[simp] theorem respond_ks (r : Response) (s : State) : (respond r s).ks = s.ks := rfl
@[simp] theorem respond_ksv (r : Response) (s : State) : (respond r s).ksv = s.ksv := rfl
@[simp] theorem respond_pending (r : Response) (s : State) : (respond r s).pending = s.pending := rfl
@[simp] theorem respond_responses (r : Response) (s : State) : (respond r s).responses = s.responses ++ [r] := rfl

@[simp] theorem resetCore_ks (s : State) : (resetCore s).ks = none := rfl
@[simp] theorem resetCore_ksv (s : State) : (resetCore s).ksv = false := rfl
@[simp] theorem resetCore_pending (s : State) : (resetCore s).pending = s.pending := rfl
@[simp] theorem resetCore_responses (s : State) : (resetCore s).responses = s.responses := rfl

@[simp] theorem presentFrame_ks (f : List Byte) (s : State) : (presentFrame f s).ks = s.ks := rfl
@[simp] theorem presentFrame_ksv (f : List Byte) (s : State) : (presentFrame f s).ksv = s.ksv := rfl
@[simp] theorem presentFrame_pending (f : List Byte) (s : State) : (presentFrame f s).pending = .frame f :: s.pending := rfl
@[simp] theorem presentFrame_responses (f : List Byte) (s : State) : (presentFrame f s).responses = s.responses := rfl

end Sys2Proof.Machine
end

