-- ==== Sys2Proof/Laws/Ops.lean ====
section
/-!
SUPPORT. One lemma per shared operation that says everything it can do; proofs cite these instead of unfolding.
-/

namespace Sys2Proof.Machine

@[simp] theorem takeFault_eq_respond (code : FaultCode) (s : State) : takeFault code s = respond (.fault code) s := rfl

@[simp] theorem idle_eq (s : State) : idle s = s := rfl

theorem scheduleOperand_of_unset {s : State} (h : s.ksv = false) : scheduleOperand s = none := by
  simp [scheduleOperand, h]

theorem scheduleOperand_of_set {s : State} (h : s.ksv = true) : scheduleOperand s = s.ks := by
  simp [scheduleOperand, h]

/-- The next input: none when nothing is pending, else the oldest one, taken off the list. -/
theorem takeInput_cases (s : State) :
    (s.pending = [] ∧ takeInput s = none) ∨
    (∃ x rest, s.pending = x :: rest ∧ takeInput s = some (x, { s with pending := rest })) := by
  cases h : s.pending with
  | nil => exact .inl ⟨rfl, by simp [takeInput, h]⟩
  | cons x rest => exact .inr ⟨x, rest, rfl, by simp [takeInput, h]⟩

theorem takeInput_of_cons {s : State} {x : Input} {rest : List Input} (h : s.pending = x :: rest) :
    takeInput s = some (x, { s with pending := rest }) := by simp [takeInput, h]

/-- Reading the schedule: the response is `NoSchedule` when there is nothing to read, else it is made from the schedule; in
both cases only the response list changes. -/
theorem answerFromSchedule_cases (answer : Schedule → Response) (s : State) :
    (scheduleOperand s = none ∧ answerFromSchedule answer s = respond (.fault .noSchedule) s) ∨
    (∃ ks, scheduleOperand s = some ks ∧ answerFromSchedule answer s = respond (answer ks) s) := by
  cases h : scheduleOperand s with
  | none => exact .inl ⟨rfl, by simp [answerFromSchedule, h]⟩
  | some ks => exact .inr ⟨ks, rfl, by simp [answerFromSchedule, h]⟩

theorem answerFromSchedule_of_none {answer : Schedule → Response} {s : State} (h : scheduleOperand s = none) :
    answerFromSchedule answer s = respond (.fault .noSchedule) s := by simp [answerFromSchedule, h]

theorem answerFromSchedule_of_some {answer : Schedule → Response} {s : State} {ks : Schedule}
    (h : scheduleOperand s = some ks) : answerFromSchedule answer s = respond (answer ks) s := by
  simp [answerFromSchedule, h]

@[simp] theorem generateSchedule_ks (d : Bool) (key : Payload) (s : State) :
    (generateSchedule d key s).ks = some (keySchedule key d) := rfl
@[simp] theorem generateSchedule_ksv (d : Bool) (key : Payload) (s : State) : (generateSchedule d key s).ksv = true := rfl
@[simp] theorem generateSchedule_pending (d : Bool) (key : Payload) (s : State) :
    (generateSchedule d key s).pending = s.pending := rfl
@[simp] theorem generateSchedule_responses (d : Bool) (key : Payload) (s : State) :
    (generateSchedule d key s).responses = s.responses ++ [.ok] := rfl

end Sys2Proof.Machine
end

