-- ==== Sys2Proof/Laws/Exec.lean ====
section
/-!
SUPPORT. Everything a command can do, said once: it completes, leaves the inputs still to come, adds one response, and
either leaves `KS` and `KSV` or is a `KSGEN`.
-/

namespace Sys2Proof.Machine

/-- A command that reads the schedule changes the response list only. -/
theorem answerFromSchedule_eq_respond (answer : Schedule → Response) (s : State) :
    ∃ r, answerFromSchedule answer s = respond r s ∧ (r = .fault .noSchedule ∨ ∃ ks, r = answer ks) := by
  rcases answerFromSchedule_cases answer s with ⟨_, h⟩ | ⟨ks, _, h⟩
  · exact ⟨_, h, .inl rfl⟩
  · exact ⟨_, h, .inr ⟨ks, rfl⟩⟩

theorem exec_cases (i : Instr) (s : State) :
    (∃ decrypt key, i = ksgen decrypt key ∧ exec i s = .next (generateSchedule decrypt key s)) ∨
    (∃ r, exec i s = .next (respond r s) ∧ r ≠ .ok ∧ ∀ decrypt key, i ≠ ksgen decrypt key) := by
  cases i with
  | ksgenE key => exact .inl ⟨false, key, rfl, rfl⟩
  | ksgenD key => exact .inl ⟨true, key, rfl, rfl⟩
  | xform block =>
    obtain ⟨r, h, hr⟩ := answerFromSchedule_eq_respond (fun ks => .block (transform block ks)) s
    refine .inr ⟨r, congrArg Host.Outcome.next h, ?_, fun d key => by cases d <;> simp [ksgen]⟩
    rcases hr with rfl | ⟨ks, rfl⟩ <;> simp
  | ksrd idx =>
    obtain ⟨r, h, hr⟩ := answerFromSchedule_eq_respond (fun ks => .word (scheduleWord ks idx)) s
    refine .inr ⟨r, congrArg Host.Outcome.next h, ?_, fun d key => by cases d <;> simp [ksgen]⟩
    rcases hr with rfl | ⟨ks, rfl⟩ <;> simp

end Sys2Proof.Machine
end

