-- ==== Sys2Proof/Laws/PerInstr.lean ====
section
/-!
SUPPORT. A statement for all commands, made per command: the shape of the encoded frame.
-/

namespace Sys2Proof.Laws.EncodedFrame

/-- The frame of a command is 9 bytes and begins with its opcode (30_encoding.md R60, R61). -/
def Statement (i : Instr) : Prop := (encode i).length = 9 ∧ (encode i).head? = some (opcodeOf i)

theorem ksgenE (key : Payload) : Statement (.ksgenE key) := by simp [Statement, encode, payloadBytes]

theorem ksgenD (key : Payload) : Statement (.ksgenD key) := by simp [Statement, encode, payloadBytes]

theorem xform (block : Payload) : Statement (.xform block) := by simp [Statement, encode, payloadBytes]

theorem ksrd (idx : Fin 32) : Statement (.ksrd idx) := by simp [Statement, encode, payloadBytes]

end Sys2Proof.Laws.EncodedFrame
end

