-- ==== Sys2Proof/Laws/Run.lean ====
section
/-!
SUPPORT. The host's run of several steps, one step at a time.
-/

namespace Sys2Proof.Machine

theorem run_succ {s t : State} (n : Nat) (h : step s = .next t) : core.run (n + 1) s = core.run n t := by
  have : core.step s = .next t := h
  simp [Host.Core.run, this]

theorem run_add {t : State} (n : Nat) : ∀ (m : Nat) (s : State), core.run m s = .next t → core.run (m + n) s = core.run n t
  | 0, _, h => by cases h; simp
  | m + 1, s, h => by
    cases hs : step s with
    | next u =>
      rw [run_succ m hs] at h
      rw [Nat.add_right_comm, run_succ (m + n) hs, run_add n m u h]
    | fault r => exact nomatch r
    | refused r =>
      have : core.step s = .refused r := hs
      simp [Host.Core.run, this] at h

end Sys2Proof.Machine
end

