-- ==== Sys2Proof/Tests/Slice0.lean ====
section
/-!
SUPPORT. The model's own tests. Every expected value is the spec's (the comment names the place in spec/), none is the
model's own answer. After them, one theorem per statement with hypotheses: a concrete case that meets them all.
-/

namespace Sys2Proof.Tests

open Sys2Proof.Machine

/-- The key and block of the document's known-answer vector (95_test_vectors.md TV1). -/
def katKey : Payload := #v[0x01, 0x23, 0x45, 0x67, 0x89, 0xab, 0xcd, 0xef]

/-- `KeySchedule(katKey, false)` as TV3 lists it. -/
def katSchedule : Schedule :=
  #v[0x370f0004, 0x373d1217, 0x0f362d0c, 0x3c3f0001, 0x3f260409, 0x321b2202, 0x0f3a1d04, 0x3a3d0a00,
    0x37320811, 0x331e020a, 0x1f3b1b00, 0x2a3c0b02, 0x37300911, 0x2f2e042a, 0x3a3d0321, 0x2a3e0902,
    0x3c1a1204, 0x3f370038, 0x3f1f3020, 0x19261508, 0x3c0b1008, 0x2d3f0138, 0x2f0d2420, 0x1d36112c,
    0x292f002a, 0x253f0130, 0x2f0d0420, 0x37351235, 0x233f0822, 0x35393010, 0x1b07240a, 0x3e1b2202]

/-- A core that holds the schedule of TV3. -/
def loaded : State := { State.reset with ks := some katSchedule, ksv := true }

/-- A core that has been sent `f` and holds no schedule. -/
def sent (f : List Byte) : State := presentFrame f State.reset

def after (r : Result) : State :=
  match r with
  | .next s => s
  | .fault _ => State.reset
  | .refused _ => State.reset

/-! ## Well-formedness: an ill-formed frame for each check -/

theorem test_wellFormed_takes_ksrd : frameWellFormed [0x03, 0x1f, 0, 0, 0, 0, 0, 0, 0] = true := by decide
theorem test_wellFormed_refuses_length : lengthOk [0x00, 1, 2, 3, 4, 5, 6, 7, 8, 9] = false := by decide
theorem test_wellFormed_refuses_opcode : opcodeDefined [0x04, 0, 0, 0, 0, 0, 0, 0, 0] = false := by decide
theorem test_wellFormed_refuses_high_bits : reservedClear [0x03, 0x20, 0, 0, 0, 0, 0, 0, 0] = false := by decide
theorem test_wellFormed_refuses_last_byte : reservedClear [0x03, 0, 0, 0, 0, 0, 0, 0, 0x80] = false := by decide

/-! ## Decoding: frames written out from R60 and R61, values of TV12 -/

theorem test_decode_ksgenE : decode [0x00, 0x01, 0x23, 0x45, 0x67, 0x89, 0xab, 0xcd, 0xef] = .ok (.ksgenE katKey) := by decide
theorem test_decode_ksgenD :
    decodeTableWord 72 0x010123456789abcdef = some (.ksgenD katKey) := by decide
theorem test_decode_xform :
    decodeTableWord 72 0x020123456789abcdef = some (.xform katKey) := by decide
theorem test_decode_ksrd :
    decodeTableWord 72 0b000000110001111100000000000000000000000000000000000000000000000000000000 = some (.ksrd 31) := by decide
theorem test_decode_ksrd_reserved : decodeTableWord 72 0x034000000000000000 = none := by decide
theorem test_decode_opcode_ff : decode (frameOfNumber 0xffffffffffffffffff) = .error .illegalCommand := by decide
theorem test_decode_challenge_in_one_frame :
    decode ((List.range 17).map (BitVec.ofNat 8)) = .error .lengthMismatch := by decide
theorem test_encode_ksrd : encode (.ksrd 30) = [0x03, 0x1e, 0, 0, 0, 0, 0, 0, 0] := by decide

/-! ## Tables: the whole-table checks of TV6 -/

theorem test_selection_table_sums :
    (PC1.toList.map Fin.val).sum = 1736 ∧ (PC2.toList.map Fin.val).sum = 1304 ∧ TOTROT.toList.sum = 232 := by decide
theorem test_sp_sums : spTables.map (fun t => t.foldl (· + ·) 0#32) =
    #v[0x20208080, 0x02100400, 0x00404100, 0x10041020, 0x41002000, 0x08080200, 0x84010040, 0x00820800] := by decide +kernel
theorem test_sp_xors : spTables.map (fun t => t.foldl (· ^^^ ·) 0#32) = Vector.replicate 8 0#32 := by decide +kernel
theorem test_sp_entry_31 : spTables.map (fun t => t[31]) =
    #v[0x01000000, 0x00008020, 0x08000000, 0x00000081, 0x00080100, 0x20000000, 0x00200800, 0x00040000] := by decide +kernel

/-! ## The functions -/

/-- TV3, all 32 words. -/
theorem test_golden_schedule : keySchedule katKey false = katSchedule := by decide +kernel
/-- TV7, the last row. -/
theorem test_layout : cookEven 0x00df73fd 0x00012117 = 0x370f0004 ∧ cookOdd 0x00df73fd 0x00012117 = 0x373d1217 := by decide +kernel
/-- TV8, rows 5 and 8. -/
theorem test_round_function : roundF 0x12345678 0x370f0004 0x373d1217 = 0xbcd13d4e ∧
    roundF 0xdeadbeef 0x3f3f3f3f 0x00000000 = 0xd87338d3 := by decide +kernel
/-- TV9, the last rows of both tables. -/
theorem test_permutations : initialPermutation ⟨0xdeadbeef, 0xcafebabe⟩ = ⟨0x73cb5e14, 0xffddfffb⟩ ∧
    finalPermutation ⟨0xdeadbeef, 0xcafebabe⟩ = ⟨0x3fd2ff88, 0xdfbbff9d⟩ := by decide +kernel
/-- TV11, a schedule no key gives. -/
theorem test_transform_arbitrary_schedule :
    transform katKey (Vector.ofFn fun i : Fin 32 => BitVec.ofNat 32 (0x01010101 * i.val)) =
      #v[0x98, 0x92, 0xda, 0xd7, 0x31, 0xbb, 0x2a, 0x77] := by decide +kernel
/-- TV13, the stored form of `password`, the evidence for the default of `FIXED_KEY`. -/
theorem test_encrypt_password : encryptPassword Config.fixedKey [0x70, 0x61, 0x73, 0x73, 0x77, 0x6f, 0x72, 0x64] =
    #v[0xdb, 0xd8, 0x3c, 0xfd, 0x72, 0x7a, 0x14, 0x58] := by decide +kernel
/-- 42_block_cipher.md R130, the textbook key of the document's vector. -/
theorem test_bitrevKey : bitrevKey katKey = #v[0x80, 0xc4, 0xa2, 0xe6, 0x91, 0xd5, 0xb3, 0xf7] := by decide +kernel
/-- 30_encoding.md R68. -/
theorem test_assembly : assemblyOf (.xform katKey) = "XFORM 01 23 45 67 89 ab cd ef" ∧ assemblyOf (.ksrd 31) = "KSRD 31" := by decide +kernel

/-! ## The commands, one step each -/

/-- R107, worked example. -/
theorem test_ksgenE_sets_schedule :
    (after (exec (.ksgenE katKey) State.reset)).ks.map (fun ks => (ks[0], ks[1], ks[30], ks[31])) =
      some (0x370f0004, 0x373d1217, 0x1b07240a, 0x3e1b2202) := by decide +kernel
theorem test_ksgenE_answers_ok : (after (exec (.ksgenE katKey) State.reset)).responses = [.ok] ∧
    (after (exec (.ksgenE katKey) State.reset)).ksv = true := by decide +kernel
/-- R108, worked example. -/
theorem test_ksgenD_reverses_pairs :
    (after (exec (.ksgenD katKey) State.reset)).ks.map (fun ks => (ks[0], ks[1], ks[30], ks[31])) =
      some (0x1b07240a, 0x3e1b2202, 0x370f0004, 0x373d1217) := by decide +kernel
theorem test_ksgenD_replaces_schedule :
    (after (exec (.ksgenD katKey) loaded)).ks.map (·[2]) = some 0x233f0822 := by decide +kernel
/-- R127, worked example: the document's known-answer vector. -/
theorem test_xform_known_answer : (after (exec (.xform katKey) loaded)).responses =
    [.block #v[0x6e, 0x09, 0xa3, 0x77, 0x26, 0xdd, 0x56, 0x0c]] := by decide +kernel
/-- TV18 line 1. -/
theorem test_xform_without_schedule : step (sent (encode (.xform katKey))) =
    .next { State.reset with responses := [.fault .noSchedule] } := rfl
/-- TV18 line 12. -/
theorem test_ksrd_last_word : (after (exec (.ksrd 31) loaded)).responses = [.word 0x3e1b2202] := by decide +kernel
/-- TV18 line 2. -/
theorem test_ksrd_without_schedule : step (sent (encode (.ksrd 0))) =
    .next { State.reset with responses := [.fault .noSchedule] } := rfl
/-- TV18 line 3: `IllegalCommand` before `NoSchedule`. -/
theorem test_illegal_before_noSchedule : (after (step (sent [0x03, 0x20, 0, 0, 0, 0, 0, 0, 0]))).responses =
    [.fault .illegalCommand] := by decide
/-- TV18 line 8. -/
theorem test_empty_frame : (after (step (sent []))).responses = [.fault .lengthMismatch] := by decide
/-- TV21 line 3. -/
theorem test_reset_event : step { loaded with pending := [.reset none] } = .next State.reset := rfl
/-- The first instruction after reset, presented as a number. -/
theorem test_withFetchWord : (after (step (State.reset.withFetchWord 72 0x030000000000000000))).responses =
    [.fault .noSchedule] := by decide +kernel

/-! ## Witnesses: a case that meets the hypotheses of each statement -/

def ksgenFrame : List Byte := encode (.ksgenE katKey)
def xformFrame : List Byte := encode (.xform katKey)
def ksrdFrame : List Byte := encode (.ksrd 31)

theorem witness_StepKeepsInvariant : Inv (sent ksgenFrame) ∧
    step (sent ksgenFrame) = .next (after (exec (.ksgenE katKey) State.reset)) :=
  ⟨⟨rfl, fun _ h => by cases h⟩, rfl⟩
theorem witness_ReachableStatesAreGood : Reachable (after (step { State.reset with pending := [.frame ksgenFrame] })) :=
  .step (.present .reset [.frame ksgenFrame]) rfl
theorem witness_StepRunsDecodedCommand :
    (sent ksrdFrame).pending = .frame ksrdFrame :: [] ∧ decode ksrdFrame = .ok (.ksrd 31) := by decide
theorem witness_StepAnswersRefusedFrame : (sent [0x04, 0, 0, 0, 0, 0, 0, 0, 0]).pending = [.frame [0x04, 0, 0, 0, 0, 0, 0, 0, 0]] ∧
    decode [0x04, 0, 0, 0, 0, 0, 0, 0, 0] = .error .illegalCommand := by decide
theorem witness_ResetEventClearsSchedule :
    ({ loaded with pending := [.reset (some xformFrame)] } : State).pending = .reset (some xformFrame) :: [] ∧
    step { loaded with pending := [.reset (some xformFrame)] } = .next State.reset ∧
    loaded.ksv = true ∧ State.reset.ksv = false := ⟨rfl, rfl, rfl, rfl⟩
theorem witness_XformResult : loaded.ksv = true ∧ loaded.ks = some katSchedule := ⟨rfl, rfl⟩
theorem witness_KsrdResult : loaded.ksv = true ∧ loaded.ks = some katSchedule ∧
    katSchedule[(0 : Fin 32)] = 0x370f0004 ∧ katSchedule[(31 : Fin 32)] = 0x3e1b2202 := by decide
theorem witness_NoScheduleAnswer : State.reset.ksv = false := rfl
theorem witness_OneResponsePerFrame : (sent ksgenFrame).pending = .frame ksgenFrame :: [] := rfl
theorem witness_FaultPriority_length : (sent [0x7f, 0, 0]).pending = [.frame [0x7f, 0, 0]] ∧
    [0x7f#8, 0, 0].length ≠ 9 := by decide
theorem witness_FaultPriority_illegal : (sent [0x03, 0, 0, 0, 0, 0, 0, 0, 1]).pending = [.frame [0x03, 0, 0, 0, 0, 0, 0, 0, 1]] ∧
    [0x03#8, 0, 0, 0, 0, 0, 0, 0, 1].length = 9 ∧ frameWellFormed [0x03, 0, 0, 0, 0, 0, 0, 0, 1] = false := by decide
theorem witness_FaultPriority_noSchedule : (sent xformFrame).pending = [.frame xformFrame] ∧ (sent xformFrame).ksv = false ∧
    xformFrame = encode (.xform katKey) ∧ (sent ksrdFrame).pending = [.frame ksrdFrame] ∧ (sent ksrdFrame).ksv = false ∧
    ksrdFrame = encode (.ksrd 31) := by decide
theorem witness_FaultChangesNoState : step (sent []) = .next { State.reset with responses := [.fault .lengthMismatch] } ∧
    [.fault .lengthMismatch] = (sent []).responses ++ [.fault .lengthMismatch] := ⟨rfl, rfl⟩
theorem witness_StateIsNeverPartlyWritten_idle : step State.reset = .next State.reset := rfl
theorem witness_StateIsNeverPartlyWritten_reset : step { loaded with pending := [.reset none] } = .next State.reset := rfl
theorem witness_StateIsNeverPartlyWritten_ksgen : decode ksgenFrame = .ok (ksgen false katKey) ∧
    step (sent ksgenFrame) = .next (generateSchedule false katKey State.reset) := ⟨by decide, rfl⟩
theorem witness_CommandKeepsLaterInputs :
    exec (.ksrd 0) (sent []) = .next { sent [] with responses := [.fault .noSchedule] } := rfl
theorem witness_KsgenModesMirror : State.reset.pending = loaded.pending ∧ State.reset.responses = loaded.responses ∧
    exec (.ksgenE katKey) loaded = .next (generateSchedule false katKey loaded) ∧
    exec (.ksgenD katKey) State.reset = .next (generateSchedule true katKey State.reset) := ⟨rfl, rfl, rfl, rfl⟩
theorem witness_ScheduleSurvivesReads : ∀ x ∈ [Input.frame xformFrame, .frame ksrdFrame, .frame []], writesState x = false := by decide
theorem witness_ReadsUseLatestSchedule : ∀ x ∈ [Input.frame [0x04], .frame xformFrame], writesState x = false := by decide
theorem witness_UnsetScheduleIsUnobservable : ({ loaded with ksv := false } : State).ksv = false := rfl
theorem witness_BlocksAreIndependent : exec (.xform katKey) loaded =
    .next { loaded with responses := [.block (transform katKey katSchedule)] } := rfl
theorem witness_CoreUndoesItsOwnXform :
    (generateSchedule false katKey State.reset).ksv = true ∧
    (generateSchedule false katKey State.reset).ks = some (keySchedule katKey false) ∧
    (generateSchedule true katKey State.reset).ksv = true ∧
    (generateSchedule true katKey State.reset).ks = some (keySchedule katKey (!false)) := ⟨rfl, rfl, rfl, rfl⟩
theorem witness_LengthMismatchExactly : (sent []).pending = [.frame []] ∧ ([] : List Byte).length ≠ 9 := by decide
theorem witness_ReservedEncodings_opcode : (sent (0x04 :: katKey.toList)).pending = [.frame (0x04 :: katKey.toList)] ∧
    0x04#8 ≤ 0x04#8 := by decide
theorem witness_ReservedEncodings_high_bits : (sent (0x03 :: katKey.toList)).pending = [.frame (0x03 :: katKey.toList)] ∧
    katKey[(7 : Fin 8)] ≠ 0#8 ∧ (0x20#8 &&& 0xe0#8) ≠ 0#8 := by decide
theorem witness_EncodeOfDecode : decode ksgenFrame = .ok (.ksgenE katKey) := by decide
theorem witness_FrameBytesAreOperandBytes : decode xformFrame = .ok (.xform katKey) := by decide
theorem witness_RawSubkeyBits : 24 ≤ 31 := by decide
theorem witness_SelfInverseKeys_constant_halves : ∀ j j' : Fin 56, (j.val < 28 ↔ j'.val < 28) →
    pc1m (Vector.replicate 8 0x80#8) j = pc1m (Vector.replicate 8 0x80#8) j' := by decide +kernel
theorem witness_SelfInverseKeys_zero : ∀ k : Fin 8, (Vector.replicate 8 0x80#8)[k] &&& 0x7f#8 = 0#8 := by decide
theorem witness_SelfInverseKeys_ones : ∀ k : Fin 8, (Vector.replicate 8 0x7f#8)[k] &&& 0x7f#8 = 0x7f#8 := by decide
theorem witness_SubstitutionTablesWriteDisjointBits : (0x01010404#32 &&& ~~~0x01010404#32) = 0#32 := by decide
theorem witness_RoundChangesOneHalf : (0 : Fin 16).val % 2 = 0 ∧ (15 : Fin 16).val % 2 = 1 := by decide
/-- TV13 rows 1 and 2: `password` and `password1234`. -/
theorem witness_PasswordsAreCutAndPadded : ([0x70, 0x61, 0x73, 0x73, 0x77, 0x6f, 0x72, 0x64] : List Byte).take 8 =
    ([0x70, 0x61, 0x73, 0x73, 0x77, 0x6f, 0x72, 0x64, 0x31, 0x32, 0x33, 0x34] : List Byte).take 8 := by decide
theorem witness_ChallengeResponseBlocks : ∀ k : Fin 8, (pad8 [0x61, 0xe2])[k] &&& 0x7f#8 = (pad8 [0xe1, 0x62])[k] &&& 0x7f#8 := by
  decide +kernel

end Sys2Proof.Tests
end

section
/-!
PROOFS. The order of bits and bytes (20_memory.md R41, R42): key bits as Permuted Choice 1 selects them, and blocks as
the cipher loads and emits them.
-/

namespace Sys2Proof.Machine

/-- R84: each key-byte mask is the power of two of its index, so bit 0 of a byte comes first. -/
theorem byteBit_eq_twoPow : ∀ m : Fin 8, BYTEBIT[m] = BitVec.twoPow 8 m.val := by decide

/-- R101: masking with a power of two tests one bit. -/
theorem and_twoPow_bne_zero {w : Nat} (x : BitVec w) (i : Nat) : ((x &&& BitVec.twoPow w i) != 0#w) = x.getLsbD i := by
  rw [BitVec.and_twoPow]
  cases hx : x.getLsbD i with
  | false => simp
  | true =>
    have hi : i < w := BitVec.lt_of_getLsbD hx
    have hne : BitVec.twoPow w i ≠ 0#w := fun h => by
      simpa [hi] using congrArg (BitVec.getLsbD · i) h
    simpa using hne

theorem keyBit_eq_getLsbD (key : Payload) (l : Fin 64) : keyBit key l = key[l.val / 8].getLsbD (l.val % 8) := by
  have hmask : BYTEBIT[l.val % 8] = BitVec.twoPow 8 (l.val % 8) := byteBit_eq_twoPow ⟨l.val % 8, by omega⟩
  rw [keyBit, hmask, and_twoPow_bne_zero]

theorem pc1_ne_bit_seven : ∀ j : Fin 56, PC1[j].val % 8 ≠ 7 := by decide

theorem pc1_reaches_other_bits : ∀ l : Fin 64, l.val % 8 ≠ 7 → ∃ j : Fin 56, PC1[j] = l := by decide +kernel

/-- R9: `be32` puts the first of four bytes highest, stated for bytes given by their index. At each place the other
three bytes give nothing: the place is below their shift or past their 8 bits. -/
theorem getLsbD_be32 (b : Fin 4 → Byte) (k : Fin 4) {n : Nat} (hn : n < 8) :
    (be32 (b 0) (b 1) (b 2) (b 3)).getLsbD (8 * (3 - k.val) + n) = (b k).getLsbD n := by
  simp only [be32, BitVec.getLsbD_or, BitVec.getLsbD_shiftLeft, BitVec.getLsbD_setWidth]
  match k with
  | 0 | 1 | 2 | 3 => simp (disch := omega) [BitVec.getLsbD_of_ge, decide_eq_true, decide_eq_false]

theorem loadBlock_left_bit (b : Payload) (k : Fin 4) {n : Nat} (hn : n < 8) :
    (loadBlock b).left.getLsbD (8 * (3 - k.val) + n) = b[k.val].getLsbD n :=
  getLsbD_be32 (fun i => b[i.val]) k hn

theorem loadBlock_right_bit (b : Payload) (k : Fin 4) {n : Nat} (hn : n < 8) :
    (loadBlock b).right.getLsbD (8 * (3 - k.val) + n) = b[k.val + 4].getLsbD n :=
  getLsbD_be32 (fun i => b[i.val + 4]) k hn

/-- R9: bit `n` of byte `k` of a word, without the bound that `getLsbD_byteBE` carries. -/
theorem getLsbD_byteBE_of_lt (w : Word) (k : Fin 4) {n : Nat} (hn : n < 8) :
    (byteBE w k).getLsbD n = w.getLsbD (8 * (3 - k.val) + n) := by
  rw [getLsbD_byteBE, decide_eq_true hn, Bool.true_and]

theorem emitBlock_getElem_low (h : Halves) : ∀ k : Fin 4, (emitBlock h)[k.val] = byteBE h.right k
  | 0 | 1 | 2 | 3 => rfl

theorem emitBlock_getElem_high (h : Halves) : ∀ k : Fin 4, (emitBlock h)[k.val + 4] = byteBE h.left k
  | 0 | 1 | 2 | 3 => rfl

/-- Settles O37: a mask of `BYTEBIT` reads one bit of its byte (`keyBit_eq_getLsbD`), and the entries of `PC1` are
exactly the numbers that do not name a bit 7. -/
theorem permutedChoiceOneSelects : Obligations.PermutedChoiceOneSelects :=
  ⟨keyBit_eq_getLsbD, fun _ _ => rfl, pc1_ne_bit_seven, pc1_reaches_other_bits, fun key =>
    ⟨keyBit_eq_getLsbD key 56, keyBit_eq_getLsbD key 0, keyBit_eq_getLsbD key 3⟩⟩

/-- Settles O46: the loaded halves by the place `be32` gives each byte, the emitted bytes by the bits of `byteBE`. -/
theorem blockByteOrder : Obligations.BlockByteOrder := by
  intro b h k n
  refine ⟨loadBlock_left_bit b k n.isLt, loadBlock_right_bit b k n.isLt, ?_, ?_⟩
  · rw [emitBlock_getElem_low, getLsbD_byteBE_of_lt _ k n.isLt]
  · rw [emitBlock_getElem_high, getLsbD_byteBE_of_lt _ k n.isLt]

end Sys2Proof.Machine
end

section
/-!
PROOFS. What becomes of a frame (30_encoding.md R64, R66, R70): the step it causes, the one response it gets, and which
frames of 9 bytes the decoder refuses.
-/

namespace Sys2Proof.Machine

theorem step_of_decoded {s : State} {f : List Byte} {rest : List Input} {i : Instr} (hp : s.pending = .frame f :: rest)
    (hd : decode f = .ok i) : step s = exec i { s with pending := rest } := by
  simp only [step, takeInput_of_cons hp, hd]

theorem step_of_refused {s : State} {f : List Byte} {rest : List Input} {code : FaultCode}
    (hp : s.pending = .frame f :: rest) (hd : decode f = .error code) :
    step s = .next (respond (.fault code) { s with pending := rest }) := by
  simp only [step, takeInput_of_cons hp, hd, takeFault_eq_respond]

/-- R66: the kind of a command's response: `Ok` for a `KSGEN` and only for it, a block or a word only for the command that
makes one. A command that reads the schedule may also answer with a fault. -/
structure IsResponseTo (i : Instr) (r : Response) : Prop where
  ok_iff : r = .ok ↔ ∃ key, i = .ksgenE key ∨ i = .ksgenD key
  of_block : (∃ b, r = .block b) → ∃ block, i = .xform block
  of_word : (∃ w, r = .word w) → ∃ idx, i = .ksrd idx

/-- R66: every command completes and gives one response, of its kind. -/
theorem exec_responds (i : Instr) (s : State) :
    ∃ r t, exec i s = .next t ∧ t.responses = s.responses ++ [r] ∧ IsResponseTo i r := by
  cases i with
  | ksgenE key => exact ⟨.ok, generateSchedule false key s, rfl, rfl, by simp, by simp, by simp⟩
  | ksgenD key => exact ⟨.ok, generateSchedule true key s, rfl, rfl, by simp, by simp, by simp⟩
  | xform block =>
    obtain ⟨r, h, hr⟩ := answerFromSchedule_eq_respond (fun ks => .block (transform block ks)) s
    refine ⟨r, respond r s, congrArg Host.Outcome.next h, rfl, ?_⟩
    rcases hr with rfl | ⟨ks, rfl⟩ <;> exact ⟨by simp, by simp, by simp⟩
  | ksrd idx =>
    obtain ⟨r, h, hr⟩ := answerFromSchedule_eq_respond (fun ks => .word (scheduleWord ks idx)) s
    refine ⟨r, respond r s, congrArg Host.Outcome.next h, rfl, ?_⟩
    rcases hr with rfl | ⟨ks, rfl⟩ <;> exact ⟨by simp, by simp, by simp⟩

/-- R61, R64 (a): an opcode is one of the four defined ones or a reserved one. -/
theorem opcode_cases (op : Byte) : (op = 0x00#8 ∨ op = 0x01#8 ∨ op = 0x02#8 ∨ op = 0x03#8) ∨ 0x04#8 ≤ op := by
  bv_omega

/-- R64 (b): a `KSRD` payload is refused exactly when one of its reserved bits is set. -/
theorem decodeKsrd_eq_error_iff (p : Payload) :
    decodeKsrd p = .error .illegalCommand ↔ p[0] &&& 0xe0#8 ≠ 0#8 ∨ ∃ k : Fin 8, k ≠ 0 ∧ p[k] ≠ 0#8 := by
  have hrest : (∃ k : Fin 8, k ≠ 0 ∧ p[k] ≠ 0#8) ↔ p[1] ||| p[2] ||| p[3] ||| p[4] ||| p[5] ||| p[6] ||| p[7] ≠ 0#8 := by
    simp only [ne_eq, reservedBytes_zero, not_forall, exists_prop]
  rw [hrest, decodeKsrd]
  split
  next hhigh => simp [hhigh]
  next hhigh =>
    split
    next hlow => simp [hlow]
    next hlow => simp [hhigh, hlow]

/-- R64: the reserved opcodes and the reserved bits of a `KSRD` payload are all that is refused. -/
theorem decode_eq_illegalCommand_iff (op : Byte) (p : Payload) :
    decode (op :: p.toList) = .error .illegalCommand ↔
      0x04#8 ≤ op ∨ (op = 0x03#8 ∧ (p[0] &&& 0xe0#8 ≠ 0#8 ∨ ∃ k : Fin 8, k ≠ 0 ∧ p[k] ≠ 0#8)) := by
  rw [decode_cons, ← decodeKsrd_eq_error_iff]
  rcases opcode_cases op with hop | hop
  · rcases hop with rfl | rfl | rfl | rfl <;> simp [decodeFields]
  · obtain ⟨h0, h1, h2, h3⟩ : op ≠ 0x00#8 ∧ op ≠ 0x01#8 ∧ op ≠ 0x02#8 ∧ op ≠ 0x03#8 := by bv_omega
    simp [decodeFields, h0, h1, h2, h3, hop]

/-- Settles O19: a command either generates a schedule or only responds (`exec_cases`), and neither touches `pending`. -/
theorem commandKeepsLaterInputs : Obligations.CommandKeepsLaterInputs := by
  intro i s t ht
  rcases exec_cases i s with ⟨decrypt, key, _, he⟩ | ⟨r, he, _, _⟩
  · cases he.symm.trans ht
    exact generateSchedule_pending decrypt key s
  · cases he.symm.trans ht
    exact respond_pending r s

/-- Settles O15: a decoded frame is answered as its command is (`exec_responds`), a refused one with its fault. -/
theorem oneResponsePerFrame : Obligations.OneResponsePerFrame := by
  intro s f rest hp
  cases hd : decode f with
  | ok i =>
    obtain ⟨r, t, he, hresp, hkind⟩ := exec_responds i { s with pending := rest }
    have hpend : t.pending = rest := commandKeepsLaterInputs i _ t he
    refine ⟨r, t, (step_of_decoded hp hd).trans he, hresp, hpend, ?_⟩
    simp only [Except.ok.injEq, reduceCtorEq, false_implies, implies_true, and_true]
    exact ⟨hkind.ok_iff, hkind.of_block, hkind.of_word⟩
  | error code => exact ⟨.fault code, _, step_of_refused hp hd, rfl, rfl, by simp⟩

/-- Settles O30: what is refused by `decode_eq_illegalCommand_iff`, and the step on a refused frame. -/
theorem reservedEncodingsRefused : Obligations.ReservedEncodingsRefused :=
  ⟨decode_eq_illegalCommand_iff, fun _ op p _ hp hres =>
    step_of_refused hp ((decode_eq_illegalCommand_iff op p).mpr hres)⟩

end Sys2Proof.Machine
end

section
/-!
PROOFS. The substitution tables (40_tables.md R94): each table writes four bits of its own, every pattern of them four
times, so one entry from each table can be combined by OR, exclusive OR or sum.
-/

namespace Sys2Proof.Machine

/-! Words with no bit in common, and words with no bit outside a mask. -/

theorem and_eq_zero_iff_getLsbD {w : Nat} {x y : BitVec w} :
    x &&& y = 0#w ↔ ∀ i, x.getLsbD i = true → y.getLsbD i = false := by
  constructor
  · intro h i hx
    simpa [hx] using congrArg (BitVec.getLsbD · i) h
  · intro h
    refine BitVec.eq_of_getLsbD_eq fun i _ => ?_
    cases hx : x.getLsbD i with
    | false => simp [hx]
    | true => simp [h i hx]

theorem and_not_eq_zero_iff_getLsbD {w : Nat} {x m : BitVec w} :
    x &&& ~~~m = 0#w ↔ ∀ i, x.getLsbD i = true → m.getLsbD i = true := by
  rw [and_eq_zero_iff_getLsbD]
  refine forall₂_congr fun i hx => ?_
  simp [BitVec.lt_of_getLsbD hx]

theorem and_eq_zero_of_masks {w : Nat} {x y mx my : BitVec w} (hx : x &&& ~~~mx = 0#w) (hy : y &&& ~~~my = 0#w)
    (hm : mx &&& my = 0#w) : x &&& y = 0#w := by
  rw [and_not_eq_zero_iff_getLsbD] at hx hy
  rw [and_eq_zero_iff_getLsbD] at hm ⊢
  intro i hxi
  have hmy : my.getLsbD i = false := hm i (hx i hxi)
  exact Bool.eq_false_iff.mpr fun hyi => Bool.eq_false_iff.mp hmy (hy i hyi)

theorem xor_eq_or_of_and_eq_zero {w : Nat} {x y : BitVec w} (h : x &&& y = 0#w) : x ^^^ y = x ||| y := by
  refine BitVec.eq_of_getLsbD_eq fun i _ => ?_
  rw [BitVec.getLsbD_xor, BitVec.getLsbD_or]
  cases hx : x.getLsbD i with
  | false => rw [Bool.false_xor, Bool.false_or]
  | true => rw [and_eq_zero_iff_getLsbD.mp h i hx, Bool.xor_false, Bool.or_false]

theorem foldl_or_of_disjoint {w : Nat} {xs : List (BitVec w)} {acc : BitVec w}
    (h : (acc :: xs).Pairwise (· &&& · = 0#w)) :
    xs.foldl (· ||| ·) acc = xs.foldl (· ^^^ ·) acc ∧ xs.foldl (· ||| ·) acc = xs.foldl (· + ·) acc := by
  induction xs generalizing acc with
  | nil => exact ⟨rfl, rfl⟩
  | cons x xs ih =>
    obtain ⟨hacc, hxs⟩ := List.pairwise_cons.mp h
    obtain ⟨hx, hrest⟩ := List.pairwise_cons.mp hxs
    have hax : acc &&& x = 0#w := hacc x List.mem_cons_self
    have hstep : ((acc ||| x) :: xs).Pairwise (· &&& · = 0#w) := by
      refine List.pairwise_cons.mpr ⟨fun y hy => ?_, hrest⟩
      rw [BitVec.and_or_distrib_right, hacc y (List.mem_cons_of_mem x hy), hx y hy, BitVec.or_self]
    simp only [List.foldl_cons, xor_eq_or_of_and_eq_zero hax, BitVec.add_eq_or_of_and_eq_zero _ _ hax]
    exact ih hstep

/-! The words whose bits all stand at given places, listed. -/

/-- The places at which a mask has a bit. -/
def bitPlaces (m : Word) : List Nat := (List.range 32).filter (m.getLsbD ·)

/-- All words with no bit outside a list of places: each place is left clear or set. -/
def wordsOver : List Nat → List Word
  | [] => [0#32]
  | p :: ps => wordsOver ps ++ (wordsOver ps).map (BitVec.twoPow 32 p ||| ·)

theorem getLsbD_clear_bit (x : Word) (p i : Nat) :
    (x &&& ~~~BitVec.twoPow 32 p).getLsbD i = (x.getLsbD i && !decide (i = p)) := by
  by_cases hi : i < 32
  · simp [hi, eq_comm]
  · simp [BitVec.getLsbD_of_ge _ _ (Nat.le_of_not_lt hi)]

theorem set_bit_of_clear_bit {x : Word} {p : Nat} (hp : x.getLsbD p = true) :
    BitVec.twoPow 32 p ||| (x &&& ~~~BitVec.twoPow 32 p) = x := by
  refine BitVec.eq_of_getLsbD_eq fun i hi => ?_
  rw [BitVec.getLsbD_or, getLsbD_clear_bit]
  by_cases hip : i = p
  · subst hip
    simp [hp, hi]
  · simp [hip, Ne.symm hip]

theorem mem_wordsOver {ps : List Nat} {x : Word} (h : ∀ i, x.getLsbD i = true → i ∈ ps) : x ∈ wordsOver ps := by
  induction ps generalizing x with
  | nil =>
    have hzero : x = 0#32 := BitVec.eq_of_getLsbD_eq fun i _ => by simpa using h i
    exact List.mem_singleton.mpr hzero
  | cons p ps ih =>
    have hrest : x &&& ~~~BitVec.twoPow 32 p ∈ wordsOver ps := ih fun i hi => by
      rw [getLsbD_clear_bit] at hi
      obtain ⟨hxi, hip⟩ : x.getLsbD i = true ∧ i ≠ p := by simpa using hi
      exact (List.mem_cons.mp (h i hxi)).resolve_left hip
    cases hp : x.getLsbD p with
    | true => exact List.mem_append_right _ (List.mem_map.mpr ⟨_, hrest, set_bit_of_clear_bit hp⟩)
    | false =>
      refine List.mem_append_left _ (ih fun i hi => (List.mem_cons.mp (h i hi)).resolve_left ?_)
      rintro rfl
      exact Bool.eq_false_iff.mp hp hi

theorem mem_wordsOver_bitPlaces {x m : Word} (h : x &&& ~~~m = 0#32) : x ∈ wordsOver (bitPlaces m) :=
  mem_wordsOver fun i hi => List.mem_filter.mpr
    ⟨List.mem_range.mpr (BitVec.lt_of_getLsbD hi), and_not_eq_zero_iff_getLsbD.mp h i hi⟩

/-! The eight tables and their masks. -/

/-- R94: the four bits that each of the tables `SP1` to `SP8` writes. -/
def spMasks : Vector Word 8 :=
  #v[0x01010404, 0x80108020, 0x08020208, 0x00802081, 0x42080100, 0x20404010, 0x04200802, 0x10041040]

theorem spTables_foldl_or : ∀ n : Fin 8, spTables[n].foldl (· ||| ·) 0#32 = spMasks[n] := by decide +kernel

theorem length_bitPlaces_spMasks : ∀ n : Fin 8, (bitPlaces spMasks[n]).length = 4 := by decide +kernel

theorem spMasks_disjoint : ∀ m n : Fin 8, m ≠ n → spMasks[m] &&& spMasks[n] = 0#32 := by decide

theorem spMasks_cover : spMasks.foldl (· ||| ·) 0#32 = 0xffffffff#32 := by decide

/-- The count of each of the 16 patterns, as a Boolean over the list of them, which the kernel evaluates quickly. -/
theorem spTables_count_all : ∀ n : Fin 8,
    ((wordsOver (bitPlaces spMasks[n])).all fun x => spTables[n].toList.count x == 4) = true := by decide +kernel

theorem spTables_count (n : Fin 8) {x : Word} (h : x &&& ~~~spMasks[n] = 0#32) : spTables[n].toList.count x = 4 :=
  eq_of_beq (List.all_eq_true.mp (spTables_count_all n) x (mem_wordsOver_bitPlaces h))

theorem spTables_within_mask : ∀ (n : Fin 8) (i : Fin 64), spTables[n][i] &&& ~~~spMasks[n] = 0#32 := by
  decide +kernel

theorem spRead_within_mask (n : Fin 8) (g : BitVec 6) : spRead spTables[n] g &&& ~~~spMasks[n] = 0#32 :=
  spTables_within_mask n g.toFin

theorem spRead_disjoint {m n : Fin 8} (h : m ≠ n) (g g' : BitVec 6) :
    spRead spTables[m] g &&& spRead spTables[n] g' = 0#32 :=
  and_eq_zero_of_masks (spRead_within_mask m g) (spRead_within_mask n g') (spMasks_disjoint m n h)

/-- Settles O34: a word under a mask is one of the 16 of `wordsOver`, which are counted, and entries of different tables
are disjoint (`spRead_disjoint`), so that their OR loses nothing (`foldl_or_of_disjoint`). -/
theorem substitutionTablesWriteDisjointBits : Obligations.SubstitutionTablesWriteDisjointBits := by
  refine ⟨spTables_foldl_or, length_bitPlaces_spMasks, spMasks_disjoint, spMasks_cover,
    fun n _ => spTables_count n, fun g => foldl_or_of_disjoint ?_⟩
  refine List.pairwise_cons.mpr ⟨fun _ _ => BitVec.zero_and, List.pairwise_map.mpr ?_⟩
  exact (List.nodup_finRange 8).imp fun hmn => spRead_disjoint hmn _ _

end Sys2Proof.Machine
end

section
/-!
PROOFS. The key schedule: the rotation of the halves (41_key_schedule.md R102), the place of each round's pair (R103)
and the bits that no schedule word has (R111).
-/

namespace Sys2Proof.Machine

/-! The rotation of step 2. -/

theorem totRot_le_28 : ∀ i : Fin 16, TOTROT[i] ≤ 28 := by decide

theorem rotIndex_val (r : Nat) (j : Fin 56) :
    (rotIndex r j).val = if j.val < 28 then (j.val + r) % 28 else 28 + (j.val - 28 + r) % 28 := by
  rw [rotIndex]
  split <;> rfl

/-- No bit crosses from one half to the other. -/
theorem rotIndex_val_lt_28_iff (r : Nat) (j : Fin 56) : (rotIndex r j).val < 28 ↔ j.val < 28 := by
  rw [rotIndex_val]
  split <;> omega

/-- A total rotation is at most 28, so one subtraction brings an index back into its half. -/
theorem rotIndex_val_of_le {r : Nat} (hr : r ≤ 28) (j : Fin 56) :
    (rotIndex r j).val =
      if j.val < 28 then (if j.val + r < 28 then j.val + r else j.val + r - 28)
      else (if j.val + r < 56 then j.val + r else j.val + r - 28) := by
  rw [rotIndex_val]
  split <;> split <;> omega

/-- Settles O38: the index is `rotIndex`, in its own form modulo 28 and, as no total exceeds 28, in the form with one
subtraction. -/
theorem rotationOfHalves : Obligations.RotationOfHalves := fun _ i j =>
  ⟨rotIndex TOTROT[i] j, rfl, rotIndex_val_of_le (totRot_le_28 i) j, rotIndex_val TOTROT[i] j,
    rotIndex_val_lt_28_iff TOTROT[i] j⟩

/-! The placement of step 3. -/

theorem slotOf_val (decrypt : Bool) (i : Fin 16) : (slotOf decrypt i).val = if decrypt then 15 - i.val else i.val := by
  cases decrypt <;> rfl

theorem slotOf_involutive (decrypt : Bool) : Function.Involutive (slotOf decrypt) := fun i => by
  cases decrypt with
  | false => rfl
  | true => exact Fin.ext (Nat.sub_sub_self (by omega))

theorem keySchedule_getElem (key : Payload) (decrypt : Bool) (m : Fin 32) :
    (keySchedule key decrypt)[m] = roundWord key (slotOf decrypt ⟨m.val / 2, by omega⟩) (m.val % 2 == 1) := by
  simp [keySchedule]

/-- R103: the pair at slot `s` is that of the round whose slot is `s`, its first word at the even position. -/
theorem keySchedule_getElem_pair (key : Payload) (decrypt : Bool) (s : Fin 16) (k : Fin 2) :
    (keySchedule key decrypt)[2 * s.val + k.val] = roundWord key (slotOf decrypt s) (k.val == 1) := by
  have hdiv : (2 * s.val + k.val) / 2 = s.val := by omega
  have hmod : (2 * s.val + k.val) % 2 = k.val := by omega
  exact (keySchedule_getElem key decrypt ⟨2 * s.val + k.val, by omega⟩).trans (by simp only [hdiv, hmod])

theorem keySchedule_getElem_slotOf (key : Payload) (decrypt : Bool) (i : Fin 16) (k : Fin 2) :
    (keySchedule key decrypt)[2 * (slotOf decrypt i).val + k.val] = roundWord key i (k.val == 1) := by
  rw [keySchedule_getElem_pair, slotOf_involutive decrypt i]

/-- A position belongs to one slot, that of its number halved. -/
theorem position_of_slot_iff (m : Fin 32) (s : Fin 16) :
    m.val = 2 * s.val ∨ m.val = 2 * s.val + 1 ↔ s = ⟨m.val / 2, by omega⟩ := by
  simp only [Fin.ext_iff]
  omega

theorem existsUnique_round_of_position (decrypt : Bool) (m : Fin 32) :
    ∃! i : Fin 16, m.val = 2 * (slotOf decrypt i).val ∨ m.val = 2 * (slotOf decrypt i).val + 1 := by
  simp only [position_of_slot_iff, (slotOf_involutive decrypt).eq_iff]
  exact existsUnique_eq

theorem selectWord_of_none_selected : selectWord (fun _ => false) = 0#32 :=
  BitVec.eq_of_getLsbD_eq fun n _ => by
    rw [getLsbD_selectWord]
    simp

/-- Settles O39: `slotOf` is its own inverse, so the position that reads back the round of its slot is the one the round
writes, and no other round writes it. -/
theorem placementOfRounds : Obligations.PlacementOfRounds :=
  ⟨fun i => ⟨slotOf_val false i, slotOf_val true i⟩,
    fun key decrypt i => ⟨keySchedule_getElem_slotOf key decrypt i 0, keySchedule_getElem_slotOf key decrypt i 1⟩,
    existsUnique_round_of_position, selectWord_of_none_selected⟩

/-! The bits that the layout of step 5 leaves zero. -/

/-- A word with no bit in a mask is at most the mask's complement. -/
theorem le_not_of_and_eq_zero {w : Nat} {x m : BitVec w} (h : x &&& m = 0#w) : x ≤ ~~~m := by
  have hx : x &&& ~~~m = x := BitVec.eq_of_getLsbD_eq fun i hi => by
    cases hxi : x.getLsbD i with
    | false => simp [hxi]
    | true =>
      have hmi : m.getLsbD i = false := and_eq_zero_iff_getLsbD.mp h i hxi
      rw [BitVec.getLsbD_and, BitVec.getLsbD_not, hxi, hmi, decide_eq_true hi]
      rfl
  calc x = x &&& ~~~m := hx.symm
    _ ≤ ~~~m := BitVec.le_def.mpr (BitVec.toNat_and x (~~~m) ▸ Nat.and_le_right)

/-- R105: each of the four fields, shifted into place, is within a mask that misses bits 7 and 6 of every byte. -/
theorem cookEven_and_reserved (raw0 raw1 : Word) : cookEven raw0 raw1 &&& 0xc0c0c0c0#32 = 0#32 := by
  simp [cookEven, BitVec.and_or_distrib_right, BitVec.shiftLeft_and_distrib, BitVec.ushiftRight_and_distrib,
    BitVec.and_assoc]

theorem cookOdd_and_reserved (raw0 raw1 : Word) : cookOdd raw0 raw1 &&& 0xc0c0c0c0#32 = 0#32 := by
  simp [cookOdd, BitVec.and_or_distrib_right, BitVec.shiftLeft_and_distrib, BitVec.ushiftRight_and_distrib,
    BitVec.and_assoc]

theorem roundWord_and_reserved (key : Payload) (i : Fin 16) (odd : Bool) :
    roundWord key i odd &&& 0xc0c0c0c0#32 = 0#32 := by
  cases odd with
  | false => exact cookEven_and_reserved (rawEven key i) (rawOdd key i)
  | true => exact cookOdd_and_reserved (rawEven key i) (rawOdd key i)

theorem reservedBitsZero_keySchedule (key : Payload) (decrypt : Bool) : reservedBitsZero (keySchedule key decrypt) :=
  fun m => by rw [keySchedule_getElem, roundWord_and_reserved]

/-- Settles O42: every schedule word is a round word, which is laid out with bits 7 and 6 of each byte zero
(`roundWord_and_reserved`); the bound is the complement of those bits. -/
theorem scheduleWordsHaveZeroBits : Obligations.ScheduleWordsHaveZeroBits := fun key decrypt =>
  have hzero : reservedBitsZero (keySchedule key decrypt) := reservedBitsZero_keySchedule key decrypt
  ⟨hzero, fun m => le_not_of_and_eq_zero (hzero m)⟩

end Sys2Proof.Machine
end

section
/-!
PROOFS. `Transform` undone (42_block_cipher.md R128). Every step is undone by its counterpart with the two halves in
exchanged order: loading by emitting, the initial permutation by the final one, and a round by the round with the same
pair, counted from the other end.
-/

namespace Sys2Proof.Machine

/-- The two halves in exchanged order. -/
def Halves.swap (h : Halves) : Halves := ⟨h.right, h.left⟩

theorem Halves.swap_swap (h : Halves) : h.swap.swap = h := rfl

theorem Halves.mk_left_right (h : Halves) : Halves.mk h.left h.right = h := rfl

/-! Steps 1 and 5. -/

theorem byteBE_be32 (b : Fin 4 → Byte) (k : Fin 4) : byteBE (be32 (b 0) (b 1) (b 2) (b 3)) k = b k :=
  BitVec.eq_of_getLsbD_eq fun _ hn => by rw [getLsbD_byteBE_of_lt _ k hn, getLsbD_be32 b k hn]

/-- R41: emitting what was loaded, the halves exchanged, gives the block back. -/
theorem emitBlock_swap_loadBlock (b : Payload) : emitBlock (loadBlock b).swap = b := by
  have low (k : Fin 4) : (emitBlock (loadBlock b).swap)[k.val] = b[k.val] :=
    (emitBlock_getElem_low _ k).trans (byteBE_be32 (fun i => b[i.val]) k)
  have high (k : Fin 4) : (emitBlock (loadBlock b).swap)[k.val + 4] = b[k.val + 4] :=
    (emitBlock_getElem_high _ k).trans (byteBE_be32 (fun i => b[i.val + 4]) k)
  refine Vector.ext fun j hj => ?_
  rcases Nat.lt_or_ge j 4 with hlt | hge
  · exact low ⟨j, hlt⟩
  · obtain ⟨k, rfl⟩ := Nat.exists_eq_add_of_le' hge
    exact high ⟨k, by omega⟩

/-! Steps 2 and 4. -/

theorem rotr32_rotl32_one (a : Word) : rotr32 (rotl32 a 1) 1 = a := by
  rw [rotl32_one, rotr32_one]
  ext i hi
  simp only [BitVec.getElem_rotateRight, BitVec.getElem_rotateLeft]
  grind

theorem rotl32_rotr32_one (a : Word) : rotl32 (rotr32 a 1) 1 = a := by
  rw [rotl32_one, rotr32_one]
  ext i hi
  simp only [BitVec.getElem_rotateLeft, BitVec.getElem_rotateRight]
  grind

/-- A shift that loses no bit of the mask loses none of a masked word. -/
theorem shiftLeft_ushiftRight_and_mask {s : Nat} {m : Word} (hm : m <<< s >>> s = m) (x : Word) :
    (x &&& m) <<< s >>> s = x &&& m :=
  BitVec.eq_of_getLsbD_eq fun i hi => by
    cases hmi : m.getLsbD i with
    | false => simp [hmi]
    | true =>
      have hlt : s + i < 32 := by simpa [hmi, hi] using congrArg (BitVec.getLsbD · i) hm
      simp [hi, hlt]

/-- What an exchange compares is the same after it: both sides have changed by the same word. -/
theorem ushiftRight_xor_of_exchanged {s : Nat} {m : Word} (hm : m <<< s >>> s = m) (l r x : Word) :
    (l ^^^ (x &&& m) <<< s) >>> s ^^^ (r ^^^ (x &&& m)) = l >>> s ^^^ r := by
  rw [BitVec.ushiftRight_xor_distrib, shiftLeft_ushiftRight_and_mask hm, BitVec.xor_comm r, BitVec.xor_assoc,
    ← BitVec.xor_assoc _ _ r, BitVec.xor_self, BitVec.zero_xor]

theorem exchangeLeft_exchangeLeft {s : Nat} {m : Word} (hm : m <<< s >>> s = m) (h : Halves) :
    exchangeLeft s m (exchangeLeft s m h) = h := by
  simp [exchangeLeft, ushiftRight_xor_of_exchanged hm]

theorem exchangeLeft_swap (s : Nat) (m : Word) (h : Halves) : exchangeLeft s m h.swap = (exchangeRight s m h).swap := rfl

theorem exchangeRight_exchangeRight {s : Nat} {m : Word} (hm : m <<< s >>> s = m) (h : Halves) :
    exchangeRight s m (exchangeRight s m h) = h :=
  congrArg Halves.swap (exchangeLeft_exchangeLeft hm h.swap)

theorem exchangeRight_swap (s : Nat) (m : Word) (h : Halves) : exchangeRight s m h.swap = (exchangeLeft s m h).swap := rfl

theorem exchangeSame_eq_exchangeLeft (m : Word) (h : Halves) : exchangeSame m h = exchangeLeft 0 m h := by
  simp [exchangeSame, exchangeLeft]

theorem exchangeSame_exchangeSame (m : Word) (h : Halves) : exchangeSame m (exchangeSame m h) = h := by
  rw [exchangeSame_eq_exchangeLeft, exchangeSame_eq_exchangeLeft, exchangeLeft_exchangeLeft (by simp)]

theorem exchangeSame_swap (m : Word) (h : Halves) : exchangeSame m h.swap = (exchangeSame m h).swap := by
  simp [exchangeSame, Halves.swap, BitVec.xor_comm h.right]

/-- The lines of R122 in reverse order, each replaced by its inverse. -/
def undoInitialPermutation (h : Halves) : Halves :=
  let h6 : Halves := ⟨rotr32 h.left 1, h.right⟩
  let h5 := exchangeSame 0xaaaaaaaa#32 h6
  let h4 : Halves := ⟨h5.left, rotr32 h5.right 1⟩
  let h3 := exchangeRight 8 0x00ff00ff#32 h4
  let h2 := exchangeRight 2 0x33333333#32 h3
  let h1 := exchangeLeft 16 0x0000ffff#32 h2
  exchangeLeft 4 0x0f0f0f0f#32 h1

/-- R125: step 4 is step 2 undone on exchanged halves. -/
theorem finalPermutation_swap (h : Halves) : finalPermutation h.swap = (undoInitialPermutation h).swap := by
  have hsame : exchangeSame 0xaaaaaaaa#32 ⟨h.right, rotr32 h.left 1⟩ =
      (exchangeSame 0xaaaaaaaa#32 ⟨rotr32 h.left 1, h.right⟩).swap :=
    exchangeSame_swap 0xaaaaaaaa#32 ⟨rotr32 h.left 1, h.right⟩
  simp only [finalPermutation, undoInitialPermutation, ← exchangeLeft_swap, ← exchangeRight_swap]
  simp only [Halves.swap] at hsame ⊢
  rw [hsame]

theorem undoInitialPermutation_initialPermutation (h : Halves) : undoInitialPermutation (initialPermutation h) = h := by
  simp (disch := decide) only [undoInitialPermutation, initialPermutation, exchangeLeft_exchangeLeft,
    exchangeRight_exchangeRight, exchangeSame_exchangeSame, rotr32_rotl32_one, Halves.mk_left_right]

theorem initialPermutation_undoInitialPermutation (h : Halves) : initialPermutation (undoInitialPermutation h) = h := by
  simp (disch := decide) only [undoInitialPermutation, initialPermutation, exchangeLeft_exchangeLeft,
    exchangeRight_exchangeRight, exchangeSame_exchangeSame, rotl32_rotr32_one, Halves.mk_left_right]

theorem finalPermutation_swap_initialPermutation (h : Halves) :
    finalPermutation (initialPermutation h).swap = h.swap := by
  rw [finalPermutation_swap, undoInitialPermutation_initialPermutation]

theorem initialPermutation_swap_finalPermutation (h : Halves) :
    initialPermutation (finalPermutation h).swap = h.swap := by
  have hfinal : finalPermutation h = (undoInitialPermutation h.swap).swap := finalPermutation_swap h.swap
  rw [hfinal, Halves.swap_swap, initialPermutation_undoInitialPermutation]

/-! Step 3. -/

theorem revSchedule_getElem (ks : Schedule) (m : Fin 32) : (revSchedule ks)[m] = ks[2 * (15 - m.val / 2) + m.val % 2] := by
  simp [revSchedule]

theorem revSchedule_getElem_pair (ks : Schedule) (i : Fin 16) (k : Fin 2) :
    (revSchedule ks)[2 * (15 - i.val) + k.val] = ks[2 * i.val + k.val] := by
  have hdiv : 15 - (2 * (15 - i.val) + k.val) / 2 = i.val := by omega
  have hmod : (2 * (15 - i.val) + k.val) % 2 = k.val := by omega
  exact (revSchedule_getElem ks ⟨2 * (15 - i.val) + k.val, by omega⟩).trans (by simp only [hdiv, hmod])

theorem revSchedule_getElem_pair_rev (ks : Schedule) (i : Fin 16) (k : Fin 2) :
    (revSchedule ks)[2 * i.val + k.val] = ks[2 * i.rev.val + k.val] := by
  have hrev : 15 - i.rev.val = i.val := by rw [Fin.val_rev]; omega
  simpa only [hrev] using revSchedule_getElem_pair ks i.rev k

theorem cipherRound_of_even (ks : Schedule) {i : Fin 16} (hi : i.val % 2 = 0) (h : Halves) :
    cipherRound ks i h = ⟨h.left ^^^ roundF h.right ks[2 * i.val] ks[2 * i.val + 1], h.right⟩ := if_pos hi

theorem cipherRound_of_odd (ks : Schedule) {i : Fin 16} (hi : ¬ i.val % 2 = 0) (h : Halves) :
    cipherRound ks i h = ⟨h.left, h.right ^^^ roundF h.left ks[2 * i.val] ks[2 * i.val + 1]⟩ := if_neg hi

/-- R124: a round keeps the half that its round function reads. -/
theorem cipherRound_involutive (ks : Schedule) (i : Fin 16) : Function.Involutive (cipherRound ks i) := fun h => by
  by_cases hi : i.val % 2 = 0
  · simp [cipherRound_of_even ks hi]
  · simp [cipherRound_of_odd ks hi]

/-- Counted from the other end a round has the other parity, so on exchanged halves it changes the same one. -/
theorem cipherRound_revSchedule_swap (ks : Schedule) (i : Fin 16) (h : Halves) :
    cipherRound (revSchedule ks) i h.swap = (cipherRound ks i.rev h).swap := by
  have k0 : (revSchedule ks)[2 * i.val] = ks[2 * i.rev.val] := revSchedule_getElem_pair_rev ks i 0
  have k1 : (revSchedule ks)[2 * i.val + 1] = ks[2 * i.rev.val + 1] := revSchedule_getElem_pair_rev ks i 1
  have parity : i.rev.val % 2 = 0 ↔ ¬ i.val % 2 = 0 := by rw [Fin.val_rev]; omega
  by_cases hi : i.val % 2 = 0
  · rw [cipherRound_of_even _ hi, cipherRound_of_odd _ fun hrev => parity.mp hrev hi, k0, k1]
    rfl
  · rw [cipherRound_of_odd _ hi, cipherRound_of_even _ (parity.mpr hi), k0, k1]
    rfl

/-- Involutive steps are undone by the same steps in reverse order. -/
theorem foldl_reverse_foldl {α β : Type} {f : β → α → β} (hf : ∀ a, Function.Involutive (f · a)) (l : List α)
    (b : β) : l.reverse.foldl f (l.foldl f b) = b := by
  induction l generalizing b with
  | nil => rfl
  | cons a l ih =>
    rw [List.foldl_cons, List.reverse_cons, List.foldl_append, ih]
    exact hf a b

/-- Step 3 is undone by step 3 on exchanged halves, with the pairs in reverse order. -/
theorem cipherRounds_revSchedule_swap (ks : Schedule) (h : Halves) :
    cipherRounds (revSchedule ks) (cipherRounds ks h).swap = h.swap :=
  calc cipherRounds (revSchedule ks) (cipherRounds ks h).swap
      = ((List.finRange 16).foldl (fun h i => cipherRound ks i.rev h) (cipherRounds ks h)).swap :=
        List.foldl_hom Halves.swap fun h i => cipherRound_revSchedule_swap ks i h
    _ = ((List.finRange 16).reverse.foldl (fun h i => cipherRound ks i h) (cipherRounds ks h)).swap := by
        rw [List.finRange_reverse, List.foldl_map]
    _ = h.swap := congrArg Halves.swap (foldl_reverse_foldl (cipherRound_involutive ks) _ h)

/-! The round trip. -/

theorem transform_revSchedule (block : Payload) (ks : Schedule) :
    transform (transform block ks) (revSchedule ks) = block := by
  let h := initialPermutation (loadBlock block)
  have hload : initialPermutation (loadBlock (transform block ks)) = (cipherRounds ks h).swap :=
    (congrArg initialPermutation (loadBlock_emitBlock _)).trans (initialPermutation_swap_finalPermutation _)
  calc transform (transform block ks) (revSchedule ks)
      = emitBlock (finalPermutation (cipherRounds (revSchedule ks) (cipherRounds ks h).swap)) := by rw [transform, hload]
    _ = emitBlock (finalPermutation h.swap) := by rw [cipherRounds_revSchedule_swap]
    _ = block := by rw [finalPermutation_swap_initialPermutation, emitBlock_swap_loadBlock]

theorem slotOf_not (decrypt : Bool) (i : Fin 16) : slotOf (!decrypt) i = slotOf decrypt ⟨15 - i.val, by omega⟩ := by
  cases decrypt with
  | false => rfl
  | true => exact Fin.ext (Nat.sub_sub_self (by omega)).symm

/-- R110 (b): the other mode holds the same pairs in reverse order. -/
theorem keySchedule_not_eq_revSchedule (key : Payload) (decrypt : Bool) :
    keySchedule key (!decrypt) = revSchedule (keySchedule key decrypt) :=
  Vector.ext fun m hm =>
    calc (keySchedule key (!decrypt))[m]
        = roundWord key (slotOf (!decrypt) ⟨m / 2, by omega⟩) (m % 2 == 1) := keySchedule_getElem key (!decrypt) ⟨m, hm⟩
      _ = roundWord key (slotOf decrypt ⟨15 - m / 2, by omega⟩) (m % 2 == 1) := by rw [slotOf_not]
      _ = (keySchedule key decrypt)[2 * (15 - m / 2) + m % 2] :=
        (keySchedule_getElem_pair key decrypt ⟨15 - m / 2, by omega⟩ ⟨m % 2, by omega⟩).symm
      _ = (revSchedule (keySchedule key decrypt))[m] := (revSchedule_getElem _ ⟨m, hm⟩).symm

theorem transform_other_mode (key block : Payload) (decrypt : Bool) :
    transform (transform block (keySchedule key decrypt)) (keySchedule key (!decrypt)) = block := by
  rw [keySchedule_not_eq_revSchedule, transform_revSchedule]

/-- Settles O52: each step of `Transform` is undone by its counterpart on exchanged halves, and the two modes of a key
are each other's reverse. -/
theorem roundTrip : Obligations.RoundTrip :=
  ⟨transform_revSchedule, revSchedule_getElem_pair, fun key block =>
    ⟨transform_other_mode key block false, transform_other_mode key block true⟩⟩

end Sys2Proof.Machine
end

section
/-!
PROOFS. The three faults (60_exceptions.md R150 to R155): which frames raise each of them, in which order, and that the
fault response is all a faulting frame does.
-/

namespace Sys2Proof.Machine

/-! `NoSchedule` (R153). -/

theorem answerFromSchedule_of_unset (answer : Schedule → Response) {s : State} (h : s.ksv = false) :
    answerFromSchedule answer s = respond (.fault .noSchedule) s :=
  answerFromSchedule_of_none (scheduleOperand_of_unset h)

theorem exec_xform_of_unset (block : Payload) {s : State} (h : s.ksv = false) :
    exec (.xform block) s = .next (respond (.fault .noSchedule) s) :=
  congrArg Host.Outcome.next (answerFromSchedule_of_unset _ h)

theorem exec_ksrd_of_unset (idx : Fin 32) {s : State} (h : s.ksv = false) :
    exec (.ksrd idx) s = .next (respond (.fault .noSchedule) s) :=
  congrArg Host.Outcome.next (answerFromSchedule_of_unset _ h)

/-- Settles O14: both commands read the schedule by `answerFromSchedule`, which finds none while `KSV = 0`. -/
theorem noScheduleAnswer : Obligations.NoScheduleAnswer := fun _ block idx h =>
  ⟨exec_xform_of_unset block h, exec_ksrd_of_unset idx h⟩

/-! `LengthMismatch` (R151). -/

theorem decodeKsrd_ne_lengthMismatch (p : Payload) : decodeKsrd p ≠ .error .lengthMismatch := by
  rw [decodeKsrd]
  split
  next => simp
  next => split <;> simp

/-- R65: what the decoder says of the opcode and the payload is never that the length is wrong. -/
theorem decodeFields_ne_lengthMismatch (op : Byte) (p : Payload) : decodeFields op p ≠ .error .lengthMismatch := by
  rcases opcode_cases op with hop | hop
  · rcases hop with rfl | rfl | rfl | rfl
    · simp [decodeFields]
    · simp [decodeFields]
    · simp [decodeFields]
    · exact decodeKsrd_ne_lengthMismatch p
  · obtain ⟨h0, h1, h2, h3⟩ : op ≠ 0x00#8 ∧ op ≠ 0x01#8 ∧ op ≠ 0x02#8 ∧ op ≠ 0x03#8 := by bv_omega
    simp [decodeFields, h0, h1, h2, h3]

theorem decode_eq_lengthMismatch_iff (f : List Byte) : decode f = .error .lengthMismatch ↔ f.length ≠ 9 := by
  refine ⟨fun hd hlen => ?_, decode_of_length⟩
  obtain ⟨op, p, rfl⟩ := frame_split hlen
  exact decodeFields_ne_lengthMismatch op p ((decode_cons op p).symm.trans hd)

/-- Settles O29: which frames the decoder refuses for their length, and the step on a refused frame. -/
theorem lengthMismatchExactly : Obligations.LengthMismatchExactly :=
  ⟨decode_eq_lengthMismatch_iff, fun _ f _ hp hlen => step_of_refused hp ((decode_eq_lengthMismatch_iff f).mpr hlen)⟩

/-! `IllegalCommand` (R152): the independent checks of a frame against the decoder. -/

/-- The bytes `p[1] .. p[7]` of a payload, as a list and by index. -/
theorem all_drop_one_eq_zero_iff (p : Payload) :
    (p.toList.drop 1).all (· == 0#8) = true ↔ ∀ k : Fin 8, k ≠ 0 → p[k] = 0#8 := by
  simp only [List.all_eq_true, beq_iff_eq, List.mem_drop_iff_getElem, Vector.length_toList, Vector.getElem_toList]
  constructor
  · intro h k hk
    have hpos : 0 < k.val := Fin.pos_iff_ne_zero.mpr hk
    exact h _ ⟨k.val - 1, by omega, by simp [Nat.add_sub_cancel' hpos]⟩
  · rintro h _ ⟨j, hj, rfl⟩
    exact h ⟨1 + j, by omega⟩ (by simp [Fin.ext_iff])

/-- R64: a frame of 9 bytes passes the checks when its opcode is defined and, for `KSRD`, its reserved bits are zero. -/
theorem frameWellFormed_cons_iff (op : Byte) (p : Payload) :
    frameWellFormed (op :: p.toList) = true ↔
      op ≤ 0x03#8 ∧ (op = 0x03#8 → p[0] &&& 0xe0#8 = 0#8 ∧ ∀ k : Fin 8, k ≠ 0 → p[k] = 0#8) := by
  have hlen : lengthOk (op :: p.toList) = true := by simp [lengthOk, Config.frameBytes]
  have hop : opcodeDefined (op :: p.toList) = true ↔ op ≤ 0x03#8 := decide_eq_true_iff
  have hfirst : p.toList.getD 0 0#8 = p[0] := by simp [List.getD]
  have hclear : reservedClear (op :: p.toList) = true ↔
      (op = 0x03#8 → p[0] &&& 0xe0#8 = 0#8 ∧ ∀ k : Fin 8, k ≠ 0 → p[k] = 0#8) := by
    rw [← all_drop_one_eq_zero_iff, imp_iff_not_or, ← hfirst]
    simp [reservedClear]
  rw [frameWellFormed, hlen, Bool.true_and, Bool.and_eq_true, hop, hclear]

theorem decode_of_illFormed {f : List Byte} (hlen : f.length = 9) (hwf : frameWellFormed f = false) :
    decode f = .error .illegalCommand := by
  obtain ⟨op, p, rfl⟩ := frame_split hlen
  rw [decode_eq_illegalCommand_iff]
  have hnot := mt (frameWellFormed_cons_iff op p).mpr (Bool.eq_false_iff.mp hwf)
  by_cases hop : op ≤ 0x03#8
  · right
    simpa [hop, imp_iff_not_or, not_or] using hnot
  · left
    bv_omega

/-! The order of the faults (R154). -/

theorem decode_encode_xform (block : Payload) : decode (encode (.xform block)) = .ok (.xform block) :=
  decode_cons 0x02#8 block

/-- R62, R64: the payload of a `KSRD` frame has its reserved bits zero and gives the index back. -/
theorem decode_encode_ksrd (idx : Fin 32) : decode (encode (.ksrd idx)) = .ok (.ksrd idx) := by
  obtain ⟨hindex, hhigh⟩ := indexOf_ofNat idx
  let p : Payload := #v[BitVec.ofNat 8 idx.val, 0, 0, 0, 0, 0, 0, 0]
  calc decode (encode (.ksrd idx)) = decodeFields 0x03#8 p := decode_cons 0x03#8 p
    _ = .ok (.ksrd idx) := by simp [p, decodeFields, decodeKsrd, hindex, hhigh]

/-- Settles O16: the decoder's own faults come first, the length before the rest, and a command that reads the schedule
is looked at only once its frame has decoded. -/
theorem faultPriority : Obligations.FaultPriority := by
  intro s f rest hp
  refine ⟨fun hlen => ?_, fun hlen hwf => ?_, fun hksv block hf => ?_, fun hksv idx hf => ?_⟩
  · exact step_of_refused hp (decode_of_length hlen)
  · exact step_of_refused hp (decode_of_illFormed hlen hwf)
  · subst hf
    exact (step_of_decoded hp (decode_encode_xform block)).trans (exec_xform_of_unset block hksv)
  · subst hf
    exact (step_of_decoded hp (decode_encode_ksrd idx)).trans (exec_ksrd_of_unset idx hksv)

/-! A fault is the only effect of its frame (R155). -/

/-- Everything a step can do: idle, reset the core, generate a schedule, or add a response other than `Ok`. -/
theorem step_cases (s : State) :
    (s.pending = [] ∧ step s = .next s) ∨
    (∃ running rest, s.pending = .reset running :: rest ∧ step s = .next (resetCore { s with pending := rest })) ∨
    (∃ f rest decrypt key, s.pending = .frame f :: rest ∧ decode f = .ok (ksgen decrypt key) ∧
      step s = .next (generateSchedule decrypt key { s with pending := rest })) ∨
    (∃ f rest r, s.pending = .frame f :: rest ∧ r ≠ .ok ∧ step s = .next (respond r { s with pending := rest })) := by
  rcases takeInput_cases s with ⟨hp, ht⟩ | ⟨x, rest, hp, ht⟩
  · exact .inl ⟨hp, by simp only [step, ht, idle_eq]⟩
  · cases x with
    | reset running => exact .inr (.inl ⟨running, rest, hp, by simp only [step, ht]⟩)
    | frame f =>
      cases hd : decode f with
      | error code => exact .inr (.inr (.inr ⟨f, rest, .fault code, hp, by simp, step_of_refused hp hd⟩))
      | ok i =>
        have hs := step_of_decoded hp hd
        rcases exec_cases i { s with pending := rest } with ⟨decrypt, key, rfl, he⟩ | ⟨r, he, hr, _⟩
        · exact .inr (.inr (.inl ⟨f, rest, decrypt, key, hp, hd, hs.trans he⟩))
        · exact .inr (.inr (.inr ⟨f, rest, r, hp, hr, hs.trans he⟩))

/-- Settles O17: of the four things a step can do (`step_cases`), only the last can add a fault, and it adds nothing
else. -/
theorem faultChangesNoState : Obligations.FaultChangesNoState := by
  intro s t code hst hresp
  rcases step_cases s with ⟨_, hs⟩ | ⟨_, _, _, hs⟩ | ⟨_, _, _, _, _, _, hs⟩ | ⟨f, rest, r, hp, _, hs⟩ <;>
    cases hs.symm.trans hst
  case inl => simp at hresp
  case inr.inl => simp at hresp
  case inr.inr.inl => simp at hresp
  case inr.inr.inr =>
    obtain rfl : r = .fault code := by simpa using hresp
    exact ⟨rfl, rfl, by rw [hp]; rfl⟩

end Sys2Proof.Machine
end

section
/-!
PROOFS. Frames and commands (30_encoding.md R60 to R65, R69): a frame decodes to a command exactly when it is that
command's frame, and this agrees with the checks of WellFormed.lean and with the opcode table.
-/

namespace Sys2Proof.Machine

/-! The decoder against the encoder. -/

/-- Settles O27: a frame is its opcode and its payload (`decode_cons`); the index of `KSRD` comes back by
`decode_encode_ksrd`. -/
theorem decodeOfEncode : Obligations.DecodeOfEncode := fun i => by
  cases i with
  | ksgenE key => exact decode_cons 0x00#8 key
  | ksgenD key => exact decode_cons 0x01#8 key
  | xform block => exact decode_encode_xform block
  | ksrd idx => exact decode_encode_ksrd idx

/-- The frame of a `KSRD` is determined by its first payload byte once the reserved bits are zero (R64 (b)). -/
theorem encode_ksrd_indexOf {p : Payload} (hhigh : p[0] &&& 0xe0#8 = 0#8) (hrest : ∀ k : Fin 8, k ≠ 0 → p[k] = 0#8) :
    encode (.ksrd (indexOf p[0])) = 0x03#8 :: p.toList := by
  have hp : p = #v[p[0], 0, 0, 0, 0, 0, 0, 0] := Vector.ext fun k hk => by
    match k, hk with
    | 0, _ => rfl
    | k + 1, hk =>
      have hzero : p[k + 1] = 0#8 := hrest ⟨k + 1, hk⟩ (by simp [Fin.ext_iff])
      rw [hzero]
      match k, hk with
      | 0, _ | 1, _ | 2, _ | 3, _ | 4, _ | 5, _ | 6, _ => rfl
  rw [encode, payloadBytes, ofNat_indexOf _ hhigh]
  exact congrArg (0x03#8 :: ·.toList) hp.symm

/-- The decoder on 9 bytes: it takes the defined opcodes, and for `KSRD` the payloads with reserved bits zero; what it
takes is the frame of the command it gives. -/
theorem decode_cons_cases (op : Byte) (p : Payload) :
    (∃ i, decode (op :: p.toList) = .ok i ∧ encode i = op :: p.toList) ∨
      decode (op :: p.toList) = .error .illegalCommand := by
  by_cases hill : decode (op :: p.toList) = .error .illegalCommand
  · exact .inr hill
  left
  simp only [decode_eq_illegalCommand_iff, not_or, not_and, ne_eq, not_not, not_exists] at hill
  obtain ⟨hop, hksrd⟩ := hill
  rcases (opcode_cases op).resolve_right hop with rfl | rfl | rfl | rfl
  · exact ⟨.ksgenE p, decode_cons 0x00#8 p, rfl⟩
  · exact ⟨.ksgenD p, decode_cons 0x01#8 p, rfl⟩
  · exact ⟨.xform p, decode_cons 0x02#8 p, rfl⟩
  · obtain ⟨hhigh, hrest⟩ := hksrd rfl
    have henc := encode_ksrd_indexOf hhigh hrest
    exact ⟨.ksrd (indexOf p[0]), henc ▸ decodeOfEncode _, henc⟩

/-- Settles O28: a decoded frame has 9 bytes, and `decode_cons_cases` gives its command. -/
theorem encodeOfDecode : Obligations.EncodeOfDecode := by
  intro f i hd
  by_cases hlen : f.length = 9
  · obtain ⟨op, p, rfl⟩ := frame_split hlen
    rcases decode_cons_cases op p with ⟨j, hj, henc⟩ | hill
    · cases hj.symm.trans hd
      exact henc
    · cases hill.symm.trans hd
  · cases (decode_of_length hlen).symm.trans hd

theorem decode_eq_ok_iff (f : List Byte) (i : Instr) : decode f = .ok i ↔ encode i = f :=
  ⟨encodeOfDecode f i, fun h => h ▸ decodeOfEncode i⟩

/-- Settles O33: a frame that decodes is its opcode followed by the operand. -/
theorem frameBytesAreOperandBytes : Obligations.FrameBytesAreOperandBytes := by
  intro f p hd k
  simp only [decode_eq_ok_iff] at hd
  rcases hd with rfl | rfl | rfl <;> simp [encode, payloadBytes]

/-- Settles O26: eight closed evaluations of the decoder. -/
theorem sampleFramesDecode : Obligations.SampleFramesDecode := by
  unfold Obligations.SampleFramesDecode
  decide

/-! The decoder against the checks on frames. -/

theorem length_encode (i : Instr) : (encode i).length = 9 := by
  cases i <;> simp [encode, payloadBytes]

theorem frameWellFormed_length {f : List Byte} (h : frameWellFormed f = true) : f.length = 9 := by
  simp only [frameWellFormed, lengthOk, Bool.and_eq_true, beq_iff_eq] at h
  exact h.1.1

/-- The decoder takes a frame of 9 bytes unless it is one of the reserved encodings (R64). -/
theorem decodes_cons_iff (op : Byte) (p : Payload) :
    (∃ i, decode (op :: p.toList) = .ok i) ↔
      op ≤ 0x03#8 ∧ (op = 0x03#8 → p[0] &&& 0xe0#8 = 0#8 ∧ ∀ k : Fin 8, k ≠ 0 → p[k] = 0#8) := by
  have hop : op ≤ 0x03#8 ↔ ¬ 0x04#8 ≤ op := by bv_omega
  have hrefused : (∃ i, decode (op :: p.toList) = .ok i) ↔ decode (op :: p.toList) ≠ .error .illegalCommand := by
    rcases decode_cons_cases op p with ⟨i, hi, _⟩ | hill
    · simp [hi]
    · simp [hill]
  rw [hrefused, ne_eq, decode_eq_illegalCommand_iff, hop]
  simp only [not_or, not_and, ne_eq, not_not, not_exists]

theorem decodes_iff_frameWellFormed (f : List Byte) : (∃ i, decode f = .ok i) ↔ frameWellFormed f = true := by
  by_cases hlen : f.length = 9
  · obtain ⟨op, p, rfl⟩ := frame_split hlen
    rw [decodes_cons_iff, frameWellFormed_cons_iff]
  · have hwf : frameWellFormed f ≠ true := mt frameWellFormed_length hlen
    simp [decode_of_length hlen, hwf]

/-- Settles O32: by `decodes_iff_frameWellFormed`, which compares the two on frames of 9 bytes; no other passes either. -/
theorem decoderTakesWellFormedFrames : Obligations.DecoderTakesWellFormedFrames := decodes_iff_frameWellFormed

end Sys2Proof.Machine
end

section
/-!
PROOFS. Frames as numbers (30_encoding.md R60): 9 bytes and their 72-bit number determine each other, and a mask on the
number is a mask on each byte. So presenting a number runs its frame, and the rows of the opcode table read off bytes.
-/

namespace Sys2Proof.Machine

theorem numberOfBytes_append_singleton (f : List Byte) (b : Byte) :
    numberOfBytes (f ++ [b]) = 256 * numberOfBytes f + b.toNat := by
  simp [numberOfBytes]

theorem numberOfBytes_lt (f : List Byte) : numberOfBytes f < 2 ^ (8 * f.length) := by
  induction f using List.reverseRecOn with
  | nil => decide
  | append_singleton f b ih =>
    have hpow : 2 ^ (8 * (f ++ [b]).length) = 2 ^ (8 * f.length) * 256 := by
      rw [List.length_append, List.length_singleton, Nat.mul_add, Nat.pow_add]
    rw [numberOfBytes_append_singleton, hpow]
    have := b.isLt
    omega

/-- Byte `k` stands above the bytes after it. -/
theorem ofNat_numberOfBytes_shiftRight (f : List Byte) (k : Nat) (hk : k < f.length) :
    BitVec.ofNat 8 (numberOfBytes f >>> (8 * (f.length - 1 - k))) = f[k] := by
  induction f using List.reverseRecOn with
  | nil => exact absurd hk (Nat.not_lt_zero k)
  | append_singleton f b ih =>
    have hb := b.isLt
    rw [numberOfBytes_append_singleton]
    simp only [List.length_append, List.length_singleton, Nat.add_sub_cancel] at hk ⊢
    by_cases hlast : k = f.length
    · subst hlast
      apply BitVec.eq_of_toNat_eq
      simp [Nat.mod_eq_of_lt hb]
    · have hlt : k < f.length := by omega
      have hshift : 8 * (f.length - k) = 8 + 8 * (f.length - 1 - k) := by omega
      have hdiv : (256 * numberOfBytes f + b.toNat) >>> 8 = numberOfBytes f := by
        rw [Nat.shiftRight_eq_div_pow]
        omega
      rw [hshift, Nat.shiftRight_add, hdiv, ih hlt, List.getElem_append_left hlt]

theorem frameOfNumber_numberOfBytes {f : List Byte} (hf : f.length = 9) : frameOfNumber (numberOfBytes f) = f := by
  refine List.ext_getElem (by simp [frameOfNumber, hf]) fun k _ hk => ?_
  rw [← ofNat_numberOfBytes_shiftRight f k hk, hf]
  simp [frameOfNumber]

/-- Settles O6: the number's frame is the command's own, which is presented first and decodes to the command. -/
theorem stepRunsPresentedWord : Obligations.StepRunsPresentedWord := by
  intro s i
  have hlen := length_encode i
  have hlt : numberOfBytes (encode i) < 2 ^ 72 := by simpa [hlen] using numberOfBytes_lt (encode i)
  rw [State.withFetchWord, Nat.mod_eq_of_lt hlt, frameOfNumber_numberOfBytes hlen]
  exact step_of_decoded (presentFrame_pending _ s) (decodeOfEncode i)

/-! Masks. -/

theorem and_append_byte (m n : Nat) (a b : Byte) :
    (256 * m + a.toNat) &&& (256 * n + b.toNat) = 256 * (m &&& n) + (a &&& b).toNat := by
  have ha := a.isLt
  have hb := b.isLt
  have hab : (a &&& b).toNat < 256 := (a &&& b).isLt
  have hdiv : ((256 * m + a.toNat) &&& (256 * n + b.toNat)) / 2 ^ 8 = m &&& n := by
    rw [Nat.and_div_two_pow]
    congr 1 <;> omega
  have hmod : ((256 * m + a.toNat) &&& (256 * n + b.toNat)) % 2 ^ 8 = (a &&& b).toNat := by
    rw [Nat.and_mod_two_pow, BitVec.toNat_and]
    congr 1 <;> omega
  omega

theorem numberOfBytes_and {f g : List Byte} (h : f.length = g.length) :
    numberOfBytes f &&& numberOfBytes g = numberOfBytes (List.zipWith (· &&& ·) f g) := by
  induction f using List.reverseRecOn generalizing g with
  | nil => simp [numberOfBytes]
  | append_singleton f a ih =>
    obtain ⟨g, b, rfl⟩ : ∃ g' b, g = g' ++ [b] :=
      ⟨_, _, (List.dropLast_append_getLast (List.ne_nil_of_length_pos (by rw [← h]; simp))).symm⟩
    have hlen : f.length = g.length := by simpa using h
    rw [List.zipWith_append hlen, List.zipWith_cons_cons, List.zipWith_nil_left]
    simp only [numberOfBytes_append_singleton, and_append_byte, ih hlen]

theorem numberOfBytes_inj {f g : List Byte} (h : f.length = g.length) : numberOfBytes f = numberOfBytes g ↔ f = g := by
  refine ⟨fun hn => List.ext_getElem h fun k hf hg => ?_, congrArg _⟩
  rw [← ofNat_numberOfBytes_shiftRight f k hf, ← ofNat_numberOfBytes_shiftRight g k hg, hn, h]

/-- A number matches a mask and a pattern, both given by their bytes, when each byte does. -/
theorem numberOfBytes_and_beq_iff {f mask pattern : List Byte} (hm : f.length = mask.length)
    (hp : f.length = pattern.length) :
    (numberOfBytes f &&& numberOfBytes mask == numberOfBytes pattern) = true ↔
      List.zipWith (· &&& ·) f mask = pattern := by
  rw [beq_iff_eq, numberOfBytes_and hm, numberOfBytes_inj (by simp [← hm, hp])]

/-! The rows of the opcode table. -/

/-- A row whose mask has the bytes `a` and `m`, and whose pattern fixes the opcode bits and wants zeros elsewhere. -/
theorem rowMatches_cons_iff {r : OpcodeRow} {a c : Byte} {m : Payload} (hmask : r.mask = numberOfBytes (a :: m.toList))
    (hpattern : r.pattern = numberOfBytes (c :: List.replicate 8 0#8)) (op : Byte) (p : Payload) :
    rowMatches r (numberOfBytes (op :: p.toList)) = true ↔ op &&& a = c ∧ ∀ k : Fin 8, p[k] &&& m[k] = 0#8 := by
  rw [rowMatches, hmask, hpattern, numberOfBytes_and_beq_iff (by simp) (by simp), List.zipWith_cons_cons,
    List.cons.injEq, List.ext_getElem_iff]
  simp [Fin.forall_iff, -List.reduceReplicate]

/-- The last 8 bytes of the mask of `KSRD`: the bits that R64 (b) wants zero. -/
def ksrdMask : Payload := #v[0xe0, 0xff, 0xff, 0xff, 0xff, 0xff, 0xff, 0xff]

theorem and_ksrdMask_iff (p : Payload) :
    (∀ k : Fin 8, p[k] &&& ksrdMask[k] = 0#8) ↔ p[0] &&& 0xe0#8 = 0#8 ∧ ∀ k : Fin 8, k ≠ 0 → p[k] = 0#8 := by
  have hff (b : Byte) : b &&& 0xff#8 = b := BitVec.and_allOnes
  simp [ksrdMask, Fin.forall_fin_succ, hff]

/-- The rows of the opcode table by their opcode. -/
def opcodeRow (n : Fin 4) : OpcodeRow := opcodeTable[n.val]'n.isLt

theorem mem_opcodeTable_iff (r : OpcodeRow) : r ∈ opcodeTable ↔ ∃ n, opcodeRow n = r := by
  rw [List.mem_iff_getElem]
  exact ⟨fun ⟨n, hn, h⟩ => ⟨⟨n, hn⟩, h⟩, fun ⟨n, h⟩ => ⟨n.val, n.isLt, h⟩⟩

/-- The last 8 bytes of the mask of a row. -/
def rowMask (n : Fin 4) : Payload := if n = 3 then ksrdMask else Vector.replicate 8 0#8

theorem and_rowMask_iff (n : Fin 4) (p : Payload) :
    (∀ k : Fin 8, p[k] &&& (rowMask n)[k] = 0#8) ↔
      (n = 3 → p[0] &&& 0xe0#8 = 0#8 ∧ ∀ k : Fin 8, k ≠ 0 → p[k] = 0#8) := by
  rw [rowMask]
  split
  next hn => simp only [hn, and_ksrdMask_iff, true_imp_iff]
  next hn => simp [hn]

theorem opcodeRow_bytes : ∀ n : Fin 4, (opcodeRow n).mask = numberOfBytes (0xff#8 :: (rowMask n).toList) ∧
    (opcodeRow n).pattern = numberOfBytes (BitVec.ofNat 8 n.val :: List.replicate 8 0#8) := by decide

theorem rowMatches_opcodeRow_iff (n : Fin 4) (op : Byte) (p : Payload) :
    rowMatches (opcodeRow n) (numberOfBytes (op :: p.toList)) = true ↔
      op = BitVec.ofNat 8 n.val ∧ (n = 3 → p[0] &&& 0xe0#8 = 0#8 ∧ ∀ k : Fin 8, k ≠ 0 → p[k] = 0#8) := by
  obtain ⟨hmask, hpattern⟩ := opcodeRow_bytes n
  have hff : op &&& 0xff#8 = op := BitVec.and_allOnes
  rw [rowMatches_cons_iff hmask hpattern, and_rowMask_iff, hff]

theorem decodes_iff_exists_row (op : Byte) (p : Payload) :
    (∃ i, decode (op :: p.toList) = .ok i) ↔
      ∃ r ∈ opcodeTable, rowMatches r (numberOfBytes (op :: p.toList)) = true := by
  simp only [decodes_cons_iff, mem_opcodeTable_iff, exists_exists_eq_and, rowMatches_opcodeRow_iff]
  rcases opcode_cases op with hop | hop
  · rcases hop with rfl | rfl | rfl | rfl <;> simp [Fin.exists_fin_succ]
  · have hnot : ¬ op ≤ 0x03#8 := by bv_omega
    have hne (n : Fin 4) : op ≠ BitVec.ofNat 8 n.val := by
      have := n.isLt
      bv_omega
    simp [hnot, hne]

theorem opcodeRow_mnemonic_inj : ∀ m n : Fin 4,
    BitVec.ofNat 8 m.val = BitVec.ofNat 8 n.val ↔ (opcodeRow n).mnemonic = (opcodeRow m).mnemonic := by decide

theorem opcodeOf_eq_iff (i : Instr) (n : Fin 4) :
    opcodeOf i = BitVec.ofNat 8 n.val ↔ (opcodeRow n).mnemonic = instrMnemonic i := by
  cases i with
  | ksgenE => exact opcodeRow_mnemonic_inj 0 n
  | ksgenD => exact opcodeRow_mnemonic_inj 1 n
  | xform => exact opcodeRow_mnemonic_inj 2 n
  | ksrd => exact opcodeRow_mnemonic_inj 3 n

/-- The row of a frame that decodes is told by its opcode: the other bits that `KSRD` asks for are zero already. -/
theorem rowMatches_encode_iff (i : Instr) (r : OpcodeRow) (hr : r ∈ opcodeTable) :
    rowMatches r (numberOfBytes (encode i)) = true ↔ r.mnemonic = instrMnemonic i := by
  obtain ⟨n, rfl⟩ := (mem_opcodeTable_iff r).mp hr
  obtain ⟨op, p, hf⟩ := frame_split (length_encode i)
  obtain ⟨-, hclear⟩ := (decodes_cons_iff op p).mp ⟨i, hf ▸ decodeOfEncode i⟩
  obtain rfl : op = opcodeOf i := (List.cons.inj hf).1.symm
  rw [hf, rowMatches_opcodeRow_iff, ← opcodeOf_eq_iff]
  refine and_iff_left_of_imp fun hop hn => hclear ?_
  rw [hop, hn]
  rfl

/-- Settles O31: on 9 bytes by `decodes_iff_exists_row`; a frame that decodes is its command's, and its row the
command's (`rowMatches_encode_iff`). -/
theorem decodeFollowsOpcodeTable : Obligations.DecodeFollowsOpcodeTable := by
  refine ⟨fun f => ?_, fun f i hd => encodeOfDecode f i hd ▸ rowMatches_encode_iff i⟩
  by_cases hlen : f.length = 9
  · obtain ⟨op, p, rfl⟩ := frame_split hlen
    rw [decodes_iff_exists_row]
    exact (and_iff_right hlen).symm
  · simp [decode_of_length hlen, hlen]

end Sys2Proof.Machine
end

section
/-!
PROOFS. The invariant (10_state.md R22, R29, R112): it is what the three ways to change `KS` and `KSV` leave (R30), so
every step keeps it and every reachable state has it.
-/

namespace Sys2Proof.Machine

/-! Single steps. -/

theorem step_of_reset {s : State} {running : Option (List Byte)} {rest : List Input}
    (hp : s.pending = .reset running :: rest) : step s = .next (resetCore { s with pending := rest }) := by
  simp only [step, takeInput_of_cons hp]

/-- Settles O5: the rule `step_of_decoded`. -/
theorem stepRunsDecodedCommand : Obligations.StepRunsDecodedCommand := fun _ _ _ _ hp hd => step_of_decoded hp hd

/-- Settles O7: the rule `step_of_refused`, with the record that `respond` gives. -/
theorem stepAnswersRefusedFrame : Obligations.StepAnswersRefusedFrame := fun _ _ _ _ hp hd => step_of_refused hp hd

/-- Settles O9: each of the four things a step can do (`step_cases`) has a next state. -/
theorem stepAlwaysAnswers : Obligations.StepAlwaysAnswers := fun s => by
  rcases step_cases s with ⟨_, hs⟩ | ⟨_, _, _, hs⟩ | ⟨_, _, _, _, _, _, hs⟩ | ⟨_, _, _, _, _, hs⟩ <;> exact ⟨_, hs⟩

/-- Settles O18: the four cases of `step_cases`, where idling and a response both leave `KS` and `KSV`. -/
theorem stateIsNeverPartlyWritten : Obligations.StateIsNeverPartlyWritten := by
  intro s t hst
  rcases step_cases s with ⟨_, hs⟩ | ⟨running, rest, hp, hs⟩ | ⟨f, rest, decrypt, key, hp, hd, hs⟩ | ⟨_, _, _, _, _, hs⟩ <;>
    cases hs.symm.trans hst
  case inl => exact .inl ⟨rfl, rfl⟩
  case inr.inl => exact .inr (.inl ⟨running, rest, hp, rfl, rfl⟩)
  case inr.inr.inl => exact .inr (.inr ⟨f, rest, key, decrypt, hp, hd, rfl, rfl, rfl⟩)
  case inr.inr.inr => exact .inl ⟨rfl, rfl⟩

/-- Settles O8: the rule `step_of_reset`; of the ways to change `KSV`, only a reset event leaves it 0. -/
theorem resetEventClearsSchedule : Obligations.ResetEventClearsSchedule := by
  refine ⟨fun _ _ _ hp => step_of_reset hp, fun s t hst hset hclear => ?_⟩
  rcases stateIsNeverPartlyWritten s t hst with ⟨_, hksv⟩ | ⟨running, rest, hp, _⟩ | ⟨_, _, _, _, _, _, _, hksv, _⟩
  · exact absurd (hksv.symm.trans hclear) (by simp [hset])
  · exact ⟨running, rest, hp⟩
  · exact absurd (hksv.symm.trans hclear) (by simp)

/-! The invariant. -/

/-- The invariant asks of `KS` and `KSV` only, and they meet it in two ways. -/
theorem inv_iff (s : State) :
    Inv s ↔ (s.ks = none ∧ s.ksv = false) ∨ ∃ key decrypt, s.ks = some (keySchedule key decrypt) ∧ s.ksv = true := by
  constructor
  · rintro ⟨hflag, hkey⟩
    cases hks : s.ks with
    | none => exact .inl ⟨rfl, by rw [← hflag, hks]; rfl⟩
    | some ks =>
      obtain ⟨key, decrypt, rfl⟩ := hkey ks hks
      exact .inr ⟨key, decrypt, rfl, by rw [← hflag, hks]; rfl⟩
  · rintro (⟨hks, hksv⟩ | ⟨key, decrypt, hks, hksv⟩)
    · exact ⟨by rw [flagAgrees, hks, hksv]; rfl, by simp [scheduleFromKey, hks]⟩
    · exact ⟨by rw [flagAgrees, hks, hksv]; rfl, fun ks h => ⟨key, decrypt, Option.some.inj (h.symm.trans hks)⟩⟩

/-- Settles O2: the first way of `inv_iff`. -/
theorem resetMeetsInvariant : Obligations.ResetMeetsInvariant := (inv_iff _).mpr (.inl ⟨rfl, rfl⟩)

/-- Settles O3: a step leaves `KS` and `KSV` as they are, at their reset values, or with a whole schedule and its flag
(`stateIsNeverPartlyWritten`), and `inv_iff` takes all three. -/
theorem stepKeepsInvariant : Obligations.StepKeepsInvariant := by
  intro s t hinv hst
  rw [inv_iff] at hinv ⊢
  rcases stateIsNeverPartlyWritten s t hst with
    ⟨hks, hksv⟩ | ⟨_, _, _, hks, hksv⟩ | ⟨_, _, key, decrypt, _, _, hks, hksv, _⟩
  · rwa [hks, hksv]
  · exact .inl ⟨hks, hksv⟩
  · exact .inr ⟨key, decrypt, hks, hksv⟩

theorem reachable_inv {s : State} (h : Reachable s) : Inv s := by
  induction h with
  | reset => exact resetMeetsInvariant
  | step _ hst ih => exact stepKeepsInvariant _ _ ih hst
  | present _ _ ih => exact ih

/-- Settles O4: the invariant by induction on the way to the state; its schedules are those of keys, whose reserved
bits are zero. -/
theorem reachableStatesAreGood : Obligations.ReachableStatesAreGood := fun _ h => by
  obtain ⟨hflag, hkey⟩ := reachable_inv h
  refine ⟨⟨hflag, hkey⟩, fun ks hks => ?_⟩
  obtain ⟨key, decrypt, rfl⟩ := hkey ks hks
  exact reservedBitsZero_keySchedule key decrypt

/-- Settles O1: the record of reset. -/
theorem resetHoldsNoSchedule : Obligations.ResetHoldsNoSchedule := ⟨rfl, rfl⟩

end Sys2Proof.Machine
end

section
/-!
PROOFS. The commands and runs of them (41_key_schedule.md R107 to R109, 42_block_cipher.md R127, 20_memory.md R48): what
each command answers, that inputs are taken one at a time, and which of them the schedule survives.
-/

namespace Sys2Proof.Machine

/-! The result of each command. -/

theorem exec_ksgen (decrypt : Bool) (key : Payload) (s : State) :
    exec (ksgen decrypt key) s = .next (generateSchedule decrypt key s) := by
  cases decrypt <;> rfl

/-- Settles O10: the record that `generateSchedule` gives. -/
theorem ksgenEncryptResult : Obligations.KsgenEncryptResult := fun s key => exec_ksgen false key s

/-- Settles O11: the record that `generateSchedule` gives. -/
theorem ksgenDecryptResult : Obligations.KsgenDecryptResult := fun s key => exec_ksgen true key s

theorem answerFromSchedule_of_set (answer : Schedule → Response) {s : State} {ks : Schedule} (hksv : s.ksv = true)
    (hks : s.ks = some ks) : answerFromSchedule answer s = respond (answer ks) s :=
  answerFromSchedule_of_some ((scheduleOperand_of_set hksv).trans hks)

/-- Settles O12: `XFORM` answers from the schedule it finds. -/
theorem xformResult : Obligations.XformResult := fun _ _ _ hksv hks =>
  congrArg Host.Outcome.next (answerFromSchedule_of_set _ hksv hks)

/-- Settles O13: `KSRD` answers from the schedule it finds. -/
theorem ksrdResult : Obligations.KsrdResult := fun _ _ _ hksv hks =>
  congrArg Host.Outcome.next (answerFromSchedule_of_set _ hksv hks)

theorem scheduleOperand_respond (r : Response) (s : State) : scheduleOperand (respond r s) = scheduleOperand s := rfl

/-- Settles O24: a response changes nothing that the schedule is read from, so both commands answer alike. -/
theorem blocksAreIndependent : Obligations.BlocksAreIndependent := by
  intro s t earlier block ht
  obtain ⟨r₀, he, -⟩ := answerFromSchedule_eq_respond (fun ks => .block (transform earlier ks)) s
  obtain rfl : respond r₀ s = t := Host.Outcome.next.inj ((congrArg Host.Outcome.next he).symm.trans ht)
  rcases answerFromSchedule_cases (fun ks => .block (transform block ks)) s with ⟨hop, h⟩ | ⟨ks, hop, h⟩
  · exact ⟨_, _, _, congrArg Host.Outcome.next h,
      congrArg Host.Outcome.next (answerFromSchedule_of_none ((scheduleOperand_respond r₀ s).trans hop)), rfl, rfl, rfl, rfl⟩
  · exact ⟨_, _, _, congrArg Host.Outcome.next h,
      congrArg Host.Outcome.next (answerFromSchedule_of_some ((scheduleOperand_respond r₀ s).trans hop)), rfl, rfl, rfl, rfl⟩

/-- Settles O25: the two answers are those of `xformResult`, and `transform_other_mode` joins them. -/
theorem coreUndoesItsOwnXform : Obligations.CoreUndoesItsOwnXform := fun s t key block decrypt hsv hs htv ht =>
  ⟨transform block (keySchedule key decrypt), _, _, xformResult s _ _ hsv hs, rfl, xformResult t _ _ htv ht,
    by rw [transform_other_mode]⟩

/-- Settles O20: `KSGEN` writes all of the schedule and its flag, and the two schedules are each other's reverse. -/
theorem ksgenModesMirror : Obligations.KsgenModesMirror := by
  intro s s' t u key hpend hresp ht hu
  cases ht
  cases hu
  have hrev : keySchedule key true = revSchedule (keySchedule key false) := keySchedule_not_eq_revSchedule key false
  simp [generateSchedule, respond, setKsv, writeSchedule, hpend, hresp, hrev]

/-! Inputs taken one at a time. -/

theorem writesState_ksgen {f : List Byte} {decrypt : Bool} {key : Payload} (hd : decode f = .ok (ksgen decrypt key)) :
    writesState (.frame f) = true := by
  cases decrypt <;> simp [writesState, hd, ksgen]

/-- R48: a step takes the oldest input. -/
theorem step_takes_input {s : State} {x : Input} {rest : List Input} (hp : s.pending = x :: rest) :
    ∃ t, step s = .next t ∧ t.pending = rest := by
  rcases step_cases s with ⟨h, _⟩ | ⟨_, _, h, hs⟩ | ⟨_, _, _, _, h, _, hs⟩ | ⟨_, _, _, h, _, hs⟩ <;>
    cases hp.symm.trans h
  case inr.inl => exact ⟨_, hs, rfl⟩
  case inr.inr.inl => exact ⟨_, hs, rfl⟩
  case inr.inr.inr => exact ⟨_, hs, rfl⟩

/-- R66: an input that does not write the architectural state is answered, and nothing else happens. -/
theorem step_of_not_writesState {s : State} {x : Input} {rest : List Input} (hp : s.pending = x :: rest)
    (hx : writesState x = false) : ∃ r, step s = .next (respond r { s with pending := rest }) := by
  rcases step_cases s with ⟨h, _⟩ | ⟨_, _, h, _⟩ | ⟨_, _, _, _, h, hd, _⟩ | ⟨_, _, r, h, _, hs⟩ <;>
    cases hp.symm.trans h
  case inr.inl => cases hx
  case inr.inr.inl => cases (writesState_ksgen hd).symm.trans hx
  case inr.inr.inr => exact ⟨r, hs⟩

theorem run_takes_inputs (xs rest : List Input) : ∀ s : State, s.pending = xs ++ rest →
    ∃ t, core.run xs.length s = .next t ∧ t.pending = rest := by
  induction xs with
  | nil => exact fun s hp => ⟨s, rfl, hp⟩
  | cons x xs ih =>
    intro s hp
    obtain ⟨t, hs, ht⟩ := step_takes_input hp
    obtain ⟨u, hu, hrest⟩ := ih t ht
    exact ⟨u, (run_succ _ hs).trans hu, hrest⟩

theorem run_of_not_writesState (xs rest : List Input) (hxs : ∀ x ∈ xs, writesState x = false) :
    ∀ s : State, s.pending = xs ++ rest → ∃ rs, rs.length = xs.length ∧
      core.run xs.length s = .next { s with pending := rest, responses := s.responses ++ rs } := by
  induction xs with
  | nil =>
    rintro s rfl
    exact ⟨[], rfl, by simp [Host.Core.run]⟩
  | cons x xs ih =>
    rw [List.forall_mem_cons] at hxs
    obtain ⟨hx, hxs⟩ := hxs
    intro s hp
    obtain ⟨r, hs⟩ := step_of_not_writesState hp hx
    obtain ⟨rs, hlen, hrun⟩ := ih hxs (respond r { s with pending := xs ++ rest }) rfl
    refine ⟨r :: rs, by simp [hlen], (run_succ _ hs).trans (hrun.trans ?_)⟩
    simp [respond]

/-- Settles O21: `run_of_not_writesState` with no input after the list. -/
theorem scheduleSurvivesReads : Obligations.ScheduleSurvivesReads := by
  intro xs s hxs
  obtain ⟨rs, hlen, hrun⟩ := run_of_not_writesState xs [] hxs { s with pending := xs } (by simp)
  exact ⟨_, hrun, rfl, rfl, rfl, by simp [hlen]⟩

/-- A command at the head of the inputs is run by the next step. -/
theorem step_of_encoded {s : State} {i : Instr} {rest : List Input} (hp : s.pending = .frame (encode i) :: rest) :
    step s = exec i { s with pending := rest } :=
  step_of_decoded hp (decodeOfEncode i)

section
variable {s : State} {rest : List Input} {ks : Schedule}

theorem step_xform_of_set {block : Payload} (hp : s.pending = .frame (encode (.xform block)) :: rest)
    (hksv : s.ksv = true) (hks : s.ks = some ks) :
    step s = .next (respond (.block (transform block ks)) { s with pending := rest }) :=
  (step_of_encoded hp).trans (xformResult { s with pending := rest } block ks hksv hks)

theorem step_ksrd_of_set {idx : Fin 32} (hp : s.pending = .frame (encode (.ksrd idx)) :: rest) (hksv : s.ksv = true)
    (hks : s.ks = some ks) : step s = .next (respond (.word ks[idx]) { s with pending := rest }) :=
  (step_of_encoded hp).trans (ksrdResult { s with pending := rest } idx ks hksv hks)

end

theorem run_one {s t : State} (h : step s = .next t) : core.run 1 s = .next t := run_succ 0 h

/-- R48: after any inputs, a `KSGEN` and inputs that write no state, `KS` holds the schedule of that `KSGEN`. -/
theorem run_to_latest_schedule (before between rest : List Input) (key : Payload) (decrypt : Bool)
    (hbetween : ∀ x ∈ between, writesState x = false) (s : State)
    (hp : s.pending = before ++ .frame (encode (ksgen decrypt key)) :: (between ++ rest)) :
    ∃ t, core.run (before.length + 1 + between.length) s = .next t ∧ t.pending = rest ∧ t.ksv = true ∧
      t.ks = some (keySchedule key decrypt) := by
  obtain ⟨t, ht, htp⟩ := run_takes_inputs before _ s hp
  have hgen : step t = .next (generateSchedule decrypt key { t with pending := between ++ rest }) :=
    (step_of_encoded htp).trans (exec_ksgen decrypt key _)
  obtain ⟨rs, -, hrun⟩ := run_of_not_writesState between rest hbetween
    (generateSchedule decrypt key { t with pending := between ++ rest }) rfl
  rw [Nat.add_assoc, run_add _ _ _ ht, Nat.add_comm, run_succ _ hgen, hrun]
  exact ⟨_, rfl, rfl, rfl, rfl⟩

/-- Settles O22: `run_to_latest_schedule`, then the results of the two reads. -/
theorem readsUseLatestSchedule : Obligations.ReadsUseLatestSchedule := by
  intro before between key block decrypt idx s hbetween
  obtain ⟨t, hrun, hp, hksv, hks⟩ := run_to_latest_schedule before between
    [.frame (encode (.xform block)), .frame (encode (.ksrd idx))] key decrypt hbetween
    { s with pending := before ++ .frame (encode (ksgen decrypt key)) :: between ++
      [.frame (encode (.xform block)), .frame (encode (.ksrd idx))] } (by simp)
  have hreads : core.run 2 t = .next (respond (.word (keySchedule key decrypt)[idx])
      { respond (.block (transform block (keySchedule key decrypt)))
        { t with pending := [.frame (encode (.ksrd idx))] } with pending := [] }) :=
    (run_succ 1 (step_xform_of_set hp hksv hks)).trans (run_one (step_ksrd_of_set rfl hksv hks))
  have hlen : before.length + between.length + 3 = before.length + 1 + between.length + 2 := by omega
  rw [hlen, run_add _ _ _ hrun, hreads]
  exact ⟨_, t.responses, rfl, by simp⟩

/-! What the host can see. -/

/-- R29, R170: two states look alike when they agree in all but `KS`, and also in `KS` once it may be read. -/
structure LooksAlike (s t : State) : Prop where
  operand : scheduleOperand s = scheduleOperand t
  ksv : s.ksv = t.ksv
  pending : s.pending = t.pending
  responses : s.responses = t.responses

theorem LooksAlike.of_unset {s : State} (h : s.ksv = false) (ks : Option Schedule) : LooksAlike s { s with ks := ks } :=
  ⟨(scheduleOperand_of_unset h).trans (Eq.symm (scheduleOperand_of_unset h)), rfl, rfl, rfl⟩

section
variable {s t : State} (h : LooksAlike s t)
include h

theorem LooksAlike.withPending (rest : List Input) : LooksAlike { s with pending := rest } { t with pending := rest } :=
  ⟨h.operand, h.ksv, rfl, h.responses⟩

theorem LooksAlike.respond (r : Response) : LooksAlike (respond r s) (respond r t) :=
  ⟨h.operand, h.ksv, h.pending, by simp [h.responses]⟩

theorem LooksAlike.resetCore : LooksAlike (resetCore s) (resetCore t) :=
  ⟨rfl, rfl, h.pending, h.responses⟩

theorem LooksAlike.generateSchedule (decrypt : Bool) (key : Payload) :
    LooksAlike (generateSchedule decrypt key s) (generateSchedule decrypt key t) :=
  ⟨rfl, rfl, h.pending, by simp [h.responses]⟩

theorem LooksAlike.answerFromSchedule (answer : Schedule → Response) :
    LooksAlike (answerFromSchedule answer s) (answerFromSchedule answer t) := by
  rcases answerFromSchedule_cases answer s with ⟨hop, hs⟩ | ⟨ks, hop, hs⟩
  · rw [hs, answerFromSchedule_of_none (h.operand.symm.trans hop)]
    exact h.respond _
  · rw [hs, answerFromSchedule_of_some (h.operand.symm.trans hop)]
    exact h.respond _

theorem LooksAlike.exec (i : Instr) : ∃ s' t', exec i s = .next s' ∧ exec i t = .next t' ∧ LooksAlike s' t' := by
  cases i with
  | ksgenE key => exact ⟨_, _, rfl, rfl, h.generateSchedule false key⟩
  | ksgenD key => exact ⟨_, _, rfl, rfl, h.generateSchedule true key⟩
  | xform block => exact ⟨_, _, rfl, rfl, h.answerFromSchedule _⟩
  | ksrd idx => exact ⟨_, _, rfl, rfl, h.answerFromSchedule _⟩

theorem LooksAlike.step : ∃ s' t', step s = .next s' ∧ step t = .next t' ∧ LooksAlike s' t' := by
  cases hs : s.pending with
  | nil =>
    have idles {u : State} (hu : u.pending = []) : Machine.step u = .next u := by simp [Machine.step, takeInput, hu]
    exact ⟨s, t, idles hs, idles (h.pending.symm.trans hs), h⟩
  | cons x rest =>
    have ht : t.pending = x :: rest := h.pending.symm.trans hs
    cases x with
    | reset running => exact ⟨_, _, step_of_reset hs, step_of_reset ht, (h.withPending rest).resetCore⟩
    | frame f =>
      cases hd : decode f with
      | ok i =>
        rw [step_of_decoded hs hd, step_of_decoded ht hd]
        exact (h.withPending rest).exec i
      | error code => exact ⟨_, _, step_of_refused hs hd, step_of_refused ht hd, (h.withPending rest).respond _⟩

end

theorem LooksAlike.run (n : Nat) : ∀ {s t : State}, LooksAlike s t →
    ∃ s' t', core.run n s = .next s' ∧ core.run n t = .next t' ∧ LooksAlike s' t' := by
  induction n with
  | zero => exact fun {s t} h => ⟨s, t, rfl, rfl, h⟩
  | succ n ih =>
    intro s t h
    obtain ⟨s', t', hs, ht, h'⟩ := h.step
    rw [run_succ n hs, run_succ n ht]
    exact ih h'

/-- Settles O23: states with `KSV = 0` that differ in `KS` look alike, and steps keep that. -/
theorem unsetScheduleIsUnobservable : Obligations.UnsetScheduleIsUnobservable := by
  intro n s ks' hksv
  obtain ⟨t, t', ht, ht', h⟩ := (LooksAlike.of_unset hksv ks').run n
  exact ⟨t, t', ht, ht', h.responses, h.pending, h.ksv⟩

end Sys2Proof.Machine
end

section
/-!
PROOFS. The tables by their construction (40_tables.md R83 to R85, R96).
-/

namespace Sys2Proof.Machine

theorem bigByte_eq_twoPow : ∀ j : Fin 24, BIGBYTE[j] = BitVec.twoPow 32 (23 - j.val) := by decide

/-- R83: the totals are the sums of the standard's shifts. -/
theorem totRot_eq_sum : ∀ i : Fin 16, TOTROT[i] = (textbookShifts.take (i.val + 1)).sum := by decide

/-- Settles O36: `BitVec.twoPow` is the shifted 1, and the three tables are evaluated entry by entry. -/
theorem maskAndRotationTables : Obligations.MaskAndRotationTables :=
  ⟨byteBit_eq_twoPow, bigByte_eq_twoPow, totRot_eq_sum⟩

/-- The construction as a Boolean over the indices, which the kernel evaluates quickly. -/
theorem spTables_constructed_all : ∀ n : Fin 8,
    ((List.finRange 64).all fun i => spTables[n][i] == spConstructed n (BitVec.ofFin i)) = true := by decide +kernel

theorem spRead_eq_spConstructed (n : Fin 8) (i : BitVec 6) : spRead spTables[n] i = spConstructed n i :=
  eq_of_beq (List.all_eq_true.mp (spTables_constructed_all n) i.toFin (List.mem_finRange _))

/-- Settles O35: the 512 entries, evaluated. -/
theorem substitutionTablesFromBoxes : Obligations.SubstitutionTablesFromBoxes := spRead_eq_spConstructed

end Sys2Proof.Machine
end

section
/-!
PROOFS. The words of the key schedule (41_key_schedule.md R104, R105, R110): the bits of the raw words, the fields of
the words laid out, and from them which key bits a schedule depends on.
-/

namespace Sys2Proof.Machine

/-! Permuted Choice 2 (R104). -/

theorem bigByte_bit (j : Fin 24) (n : Nat) : BIGBYTE[j].getLsbD n = decide (n = 23 - j.val) := by
  have hj : 23 - j.val < 32 := by omega
  simp [bigByte_eq_twoPow j, BitVec.getLsbD_twoPow, hj, eq_comm]

theorem selectWord_bit (selected : Fin 24 → Bool) (j : Fin 24) :
    (selectWord selected).getLsbD (23 - j.val) = selected j := by
  have hplace (k : Fin 24) : 23 - j.val = 23 - k.val ↔ k = j := by omega
  rw [getLsbD_selectWord]
  simp only [bigByte_bit, hplace]
  rw [Bool.eq_iff_iff]
  simp

theorem selectWord_bit_of_ge (selected : Fin 24 → Bool) {n : Nat} (hn : 24 ≤ n) :
    (selectWord selected).getLsbD n = false := by
  have hplace (k : Fin 24) : n ≠ 23 - k.val := by omega
  rw [getLsbD_selectWord]
  simp only [bigByte_bit, hplace]
  simp

theorem pc2_halves : ∀ j : Fin 24, PC2[j.val].val < 28 ∧ 28 ≤ PC2[j.val + 24].val := by decide

/-- Settles O40: `selectWord` has bit `23 - j` for selection `j` and no bit above. -/
theorem rawSubkeyBits : Obligations.RawSubkeyBits :=
  ⟨fun _ _ j => ⟨selectWord_bit _ j, selectWord_bit _ j⟩,
    fun _ _ _ hn => ⟨selectWord_bit_of_ge _ hn, selectWord_bit_of_ge _ hn⟩, pc2_halves⟩

/-! The layout (R105). -/

/-- A word whose only bits are the 6-bit field `a` at bit `s`. -/
def fieldAt (s : Nat) (a : BitVec 6) : Word := a.setWidth 32 <<< s

theorem fieldAt_bit (a : BitVec 6) {s : Nat} (hs : s ≤ 26) (n : Nat) :
    (fieldAt s a).getLsbD n = (decide (s ≤ n) && a.getLsbD (n - s)) := by
  simp only [fieldAt, BitVec.getLsbD_shiftLeft, BitVec.getLsbD_setWidth, Nat.not_lt.symm, decide_not]
  by_cases hn : n - s < 6
  · simp [show n < 32 by omega, show n - s < 32 by omega]
  · simp [BitVec.getLsbD_of_ge a (n - s) (by omega)]

theorem sixBits_or (v w : Word) (s : Nat) : sixBits (v ||| w) s = sixBits v s ||| sixBits w s := by
  simp [sixBits, BitVec.ushiftRight_or_distrib]

theorem sixBits_fieldAt_same (a : BitVec 6) {s : Nat} (hs : s ≤ 26) : sixBits (fieldAt s a) s = a :=
  BitVec.eq_of_getLsbD_eq fun n hn => by
    rw [getLsbD_sixBits, fieldAt_bit a hs]
    simp [hn, -BitVec.getLsbD_eq_getElem]

theorem sixBits_fieldAt_other (a : BitVec 6) {s t : Nat} (hs : s ≤ 26) (h : s + 6 ≤ t ∨ t + 6 ≤ s) :
    sixBits (fieldAt s a) t = 0#6 :=
  BitVec.eq_of_getLsbD_eq fun n hn => by
    rw [getLsbD_sixBits, fieldAt_bit a hs]
    rcases h with h | h
    · simp [BitVec.getLsbD_of_ge a (t + n - s) (by omega)]
    · simp [show ¬ s ≤ t + n by omega]

theorem and_fieldMask (w : Word) {s : Nat} (hs : s ≤ 26) : w &&& (63#32 <<< s) = fieldAt s (sixBits w s) := by
  have hones (i : Nat) : (63#32).getLsbD i = decide (i < 6) := Nat.testBit_two_pow_sub_one 6 i
  refine BitVec.eq_of_getLsbD_eq fun n hn => ?_
  rw [fieldAt_bit _ hs, getLsbD_sixBits, BitVec.getLsbD_and, BitVec.getLsbD_shiftLeft, hones]
  by_cases hsn : s ≤ n
  · simp [hsn, hn, show ¬ n < s by omega, Nat.add_sub_cancel' hsn, Bool.and_comm]
  · simp [hsn, show n < s by omega]

theorem fieldAt_shiftLeft (s k : Nat) (a : BitVec 6) : fieldAt s a <<< k = fieldAt (s + k) a :=
  (BitVec.shiftLeft_add _ _ _).symm

theorem fieldAt_ushiftRight {s k : Nat} (hk : k ≤ s) (hs : s ≤ 26) (a : BitVec 6) :
    fieldAt s a >>> k = fieldAt (s - k) a :=
  BitVec.eq_of_getLsbD_eq fun n _ => by
    rw [BitVec.getLsbD_ushiftRight, fieldAt_bit a hs, fieldAt_bit a (by omega)]
    have hle : s ≤ k + n ↔ s - k ≤ n := by omega
    have hsub : k + n - s = n - (s - k) := by omega
    simp only [hle, hsub]

theorem cookEven_eq_fields (raw0 raw1 : Word) : cookEven raw0 raw1 =
    fieldAt 24 (sixBits raw0 18) ||| fieldAt 16 (sixBits raw0 6) ||| fieldAt 8 (sixBits raw1 18) |||
      fieldAt 0 (sixBits raw1 6) := by
  rw [cookEven, show 0x00fc0000#32 = 63#32 <<< 18 from rfl, show 0x00000fc0#32 = 63#32 <<< 6 from rfl]
  simp (disch := decide) only [and_fieldMask, fieldAt_shiftLeft, fieldAt_ushiftRight]

theorem cookOdd_eq_fields (raw0 raw1 : Word) : cookOdd raw0 raw1 =
    fieldAt 24 (sixBits raw0 12) ||| fieldAt 16 (sixBits raw0 0) ||| fieldAt 8 (sixBits raw1 12) |||
      fieldAt 0 (sixBits raw1 0) := by
  rw [cookOdd, show 0x0000003f#32 = 63#32 <<< 0 from rfl, show 0x0003f000#32 = 63#32 <<< 12 from rfl]
  simp (disch := decide) only [and_fieldMask, fieldAt_shiftLeft, fieldAt_ushiftRight]

/-- Four fields at the low ends of the bytes of a word are read back each at its own place. -/
theorem sixBits_fields (a b c d : BitVec 6) :
    let w := fieldAt 24 a ||| fieldAt 16 b ||| fieldAt 8 c ||| fieldAt 0 d
    sixBits w 24 = a ∧ sixBits w 16 = b ∧ sixBits w 8 = c ∧ sixBits w 0 = d := by
  simp (disch := decide) only [sixBits_or, sixBits_fieldAt_same, sixBits_fieldAt_other, BitVec.or_zero,
    BitVec.zero_or, and_self]

/-- Settles O41: both words are four fields at the low ends of their bytes; that the rest is zero is
`cookEven_and_reserved` and `cookOdd_and_reserved`. -/
theorem layoutFields : Obligations.LayoutFields := by
  intro raw0 raw1
  obtain ⟨e24, e16, e8, e0⟩ :=
    sixBits_fields (sixBits raw0 18) (sixBits raw0 6) (sixBits raw1 18) (sixBits raw1 6)
  obtain ⟨o24, o16, o8, o0⟩ :=
    sixBits_fields (sixBits raw0 12) (sixBits raw0 0) (sixBits raw1 12) (sixBits raw1 0)
  rw [← cookEven_eq_fields] at e24 e16 e8 e0
  rw [← cookOdd_eq_fields] at o24 o16 o8 o0
  exact ⟨e24, e16, e8, e0, o24, o16, o8, o0, cookEven_and_reserved raw0 raw1, cookOdd_and_reserved raw0 raw1⟩

/-! The six key bits for each of the eight boxes (R105, R123): box `n + 1` reads the even word of a pair for even `n` and
the odd word for odd `n`, at the byte `n / 2`. -/

/-- The 6-bit group of a round's pair of words that meets box `n + 1`. -/
def keyField (key : Payload) (i : Fin 16) (n : Fin 8) : BitVec 6 :=
  sixBits (roundWord key i (n.val % 2 == 1)) (8 * (3 - n.val / 2))

theorem sixBits_msb (w : Word) (s : Nat) (b : Fin 6) : (sixBits w s).getMsbD b.val = w.getLsbD (s + 5 - b.val) := by
  rw [BitVec.getMsbD_eq_getLsbD, getLsbD_sixBits]
  simp [show 5 - b.val < 6 by omega, show s + (5 - b.val) = s + 5 - b.val by omega]

/-- Selections `6m` to `6m + 5` of a raw word are one 6-bit field. -/
theorem selectWord_field_msb (selected : Fin 24 → Bool) (m : Fin 4) (b : Fin 6) :
    (sixBits (selectWord selected) (18 - 6 * m.val)).getMsbD b.val = selected ⟨6 * m.val + b.val, by omega⟩ := by
  rw [sixBits_msb, show 18 - 6 * m.val + 5 - b.val = 23 - (6 * m.val + b.val) by omega]
  exact selectWord_bit selected ⟨6 * m.val + b.val, by omega⟩

theorem keyField_low (key : Payload) (i : Fin 16) (m : Fin 4) :
    keyField key i ⟨m.val, by omega⟩ = sixBits (rawEven key i) (18 - 6 * m.val) := by
  obtain ⟨e24, e16, -, -, o24, o16, -⟩ := layoutFields (rawEven key i) (rawOdd key i)
  match m with
  | 0 => exact e24
  | 1 => exact o24
  | 2 => exact e16
  | 3 => exact o16

theorem keyField_high (key : Payload) (i : Fin 16) (m : Fin 4) :
    keyField key i ⟨m.val + 4, by omega⟩ = sixBits (rawOdd key i) (18 - 6 * m.val) := by
  obtain ⟨-, -, e8, e0, -, -, o8, o0, -⟩ := layoutFields (rawEven key i) (rawOdd key i)
  match m with
  | 0 => exact e8
  | 1 => exact o8
  | 2 => exact e0
  | 3 => exact o0

/-- The bits of the group for box `n + 1` are the selections `6n` to `6n + 5` of Permuted Choice 2, in order. -/
theorem keyField_msb (key : Payload) (i : Fin 16) (n : Fin 8) (b : Fin 6) :
    (keyField key i n).getMsbD b.val = pcr key i PC2[6 * n.val + b.val] := by
  obtain ⟨n, hn⟩ := n
  rcases Nat.lt_or_ge n 4 with hlt | hge
  · rw [keyField_low key i ⟨n, hlt⟩]
    exact selectWord_field_msb _ ⟨n, hlt⟩ b
  · obtain ⟨m, rfl⟩ := Nat.exists_eq_add_of_le' hge
    have hindex : 6 * m + b.val + 24 = 6 * (m + 4) + b.val := by omega
    rw [keyField_high key i ⟨m, by omega⟩]
    refine (selectWord_field_msb _ ⟨m, by omega⟩ b).trans ?_
    simp only [hindex]

/-! What a schedule depends on (R110). -/

/-- Settles O43: in both modes the pair of round `i` stands at the slot of `i`. -/
theorem modeRelationship : Obligations.ModeRelationship := fun key i k =>
  (keySchedule_getElem_slotOf key true i k).trans (keySchedule_getElem_slotOf key false i k).symm

theorem keySchedule_congr {key key' : Payload} (decrypt : Bool)
    (h : ∀ i odd, roundWord key i odd = roundWord key' i odd) : keySchedule key decrypt = keySchedule key' decrypt := by
  simp only [keySchedule, h]

theorem roundWord_congr {key key' : Payload} {i i' : Fin 16} (h : ∀ j, pcr key i j = pcr key' i' j) (odd : Bool) :
    roundWord key i odd = roundWord key' i' odd := by
  simp only [roundWord, rawEven, rawOdd, h]

theorem roundWord_eq_of_keySchedule_eq {key key' : Payload} {decrypt : Bool}
    (h : keySchedule key decrypt = keySchedule key' decrypt) (i : Fin 16) (k : Fin 2) :
    roundWord key i (k.val == 1) = roundWord key' i (k.val == 1) := by
  rw [← keySchedule_getElem_slotOf key decrypt, ← keySchedule_getElem_slotOf key' decrypt, h]

/-- Every entry of `pc1m` is selected in some round. -/
theorem pc2_reaches_all : ∀ j : Fin 56, ∃ (i : Fin 16) (q : Fin 48), rotIndex TOTROT[i] PC2[q] = j := by decide +kernel

theorem pc1m_eq_of_keySchedule_eq {key key' : Payload} {decrypt : Bool}
    (h : keySchedule key decrypt = keySchedule key' decrypt) (j : Fin 56) : pc1m key j = pc1m key' j := by
  obtain ⟨i, q, rfl⟩ := pc2_reaches_all j
  have hfield : keyField key i ⟨q.val / 6, by omega⟩ = keyField key' i ⟨q.val / 6, by omega⟩ :=
    congrArg (sixBits · _) (roundWord_eq_of_keySchedule_eq h i ⟨q.val / 6 % 2, by omega⟩)
  have hbit := congrArg (·.getMsbD (q.val % 6)) hfield
  have hq : 6 * (q.val / 6) + q.val % 6 = q.val := by omega
  have hkey (key : Payload) : (keyField key i ⟨q.val / 6, by omega⟩).getMsbD (q.val % 6) = pcr key i PC2[q] := by
    refine (keyField_msb key i ⟨q.val / 6, by omega⟩ ⟨q.val % 6, by omega⟩).trans ?_
    simp only [hq]
    rfl
  exact (hkey key).symm.trans (hbit.trans (hkey key'))

theorem keySchedule_eq_iff_pc1m (key key' : Payload) (decrypt : Bool) :
    keySchedule key decrypt = keySchedule key' decrypt ↔ ∀ j, pc1m key j = pc1m key' j :=
  ⟨pc1m_eq_of_keySchedule_eq, fun h => keySchedule_congr decrypt fun _ => roundWord_congr fun _ => h _⟩

/-- The low seven bits of a byte. -/
theorem and_7f_bit (x : Byte) (n : Nat) : (x &&& 0x7f#8).getLsbD n = (decide (n < 7) && x.getLsbD n) := by
  have hones : (0x7f#8).getLsbD n = decide (n < 7) := Nat.testBit_two_pow_sub_one 7 n
  rw [BitVec.getLsbD_and, hones, Bool.and_comm]

theorem pc1m_eq_getLsbD_and_7f (key : Payload) (j : Fin 56) :
    pc1m key j = (key[PC1[j].val / 8] &&& 0x7f#8).getLsbD (PC1[j].val % 8) := by
  have hlt : PC1[j].val % 8 < 7 := by
    have := pc1_ne_bit_seven j
    omega
  rw [pc1m, keyBit_eq_getLsbD, and_7f_bit, decide_eq_true hlt, Bool.true_and]

theorem keyBit_of_byte (key : Payload) (k : Fin 8) {n : Nat} (hn : n < 8) :
    keyBit key ⟨8 * k.val + n, by omega⟩ = key[k].getLsbD n := by
  have hdiv : (8 * k.val + n) / 8 = k.val := by omega
  have hmod : (8 * k.val + n) % 8 = n := by omega
  rw [keyBit_eq_getLsbD]
  simp only [hdiv, hmod]
  rfl

theorem pc1m_eq_iff (key key' : Payload) :
    (∀ j, pc1m key j = pc1m key' j) ↔ ∀ k : Fin 8, key[k] &&& 0x7f#8 = key'[k] &&& 0x7f#8 := by
  constructor
  · intro h k
    refine BitVec.eq_of_getLsbD_eq fun n hn => ?_
    rw [and_7f_bit, and_7f_bit, ← keyBit_of_byte key k hn, ← keyBit_of_byte key' k hn]
    by_cases hn7 : n < 7
    · have hplace : (8 * k.val + n) % 8 ≠ 7 := by omega
      obtain ⟨j, hj⟩ := pc1_reaches_other_bits ⟨8 * k.val + n, by omega⟩ hplace
      rw [← hj]
      exact congrArg (decide (n < 7) && ·) (h j)
    · rw [decide_eq_false hn7, Bool.false_and, Bool.false_and]
  · intro h j
    rw [pc1m_eq_getLsbD_and_7f, pc1m_eq_getLsbD_and_7f]
    exact congrArg (BitVec.getLsbD · _) (h ⟨PC1[j].val / 8, by omega⟩)

/-- Settles O44: every entry of `pc1m` shows in the schedule, and the entries are the low seven bits of the key bytes. -/
theorem scheduleIgnoresExactlyBitSeven : Obligations.ScheduleIgnoresExactlyBitSeven := fun key key' decrypt =>
  (keySchedule_eq_iff_pc1m key key' decrypt).trans (pc1m_eq_iff key key')

theorem pcr_eq_pc1m_of_constant_halves {key : Payload}
    (h : ∀ j j' : Fin 56, (j.val < 28 ↔ j'.val < 28) → pc1m key j = pc1m key j') (i : Fin 16) (j : Fin 56) :
    pcr key i j = pc1m key j :=
  h _ _ (rotIndex_val_lt_28_iff TOTROT[i] j)

theorem roundWord_eq_of_constant_halves {key : Payload}
    (h : ∀ j j' : Fin 56, (j.val < 28 ↔ j'.val < 28) → pc1m key j = pc1m key j') (i i' : Fin 16) (odd : Bool) :
    roundWord key i odd = roundWord key i' odd :=
  roundWord_congr (fun j => (pcr_eq_pc1m_of_constant_halves h i j).trans (pcr_eq_pc1m_of_constant_halves h i' j).symm) odd

theorem keySchedule_modes_eq_of_constant_halves {key : Payload}
    (h : ∀ j j' : Fin 56, (j.val < 28 ↔ j'.val < 28) → pc1m key j = pc1m key j') :
    keySchedule key false = keySchedule key true :=
  Vector.ext fun m hm =>
    (keySchedule_getElem key false ⟨m, hm⟩).trans
      ((roundWord_eq_of_constant_halves h _ _ _).trans (keySchedule_getElem key true ⟨m, hm⟩).symm)

/-- The keys of R110 (d): all of the low seven bits of the bytes are 0, or all are 1. -/
theorem pc1m_const_of_low_bits {key : Payload}
    (h : (∀ k : Fin 8, key[k] &&& 0x7f#8 = 0#8) ∨ ∀ k : Fin 8, key[k] &&& 0x7f#8 = 0x7f#8) :
    ∃ c, ∀ j, pc1m key j = c := by
  have byte (j : Fin 56) (v : Byte) (h : ∀ k : Fin 8, key[k] &&& 0x7f#8 = v) :
      pc1m key j = v.getLsbD (PC1[j].val % 8) :=
    (pc1m_eq_getLsbD_and_7f key j).trans (congrArg (BitVec.getLsbD · _) (h ⟨PC1[j].val / 8, by omega⟩))
  rcases h with h | h
  · exact ⟨false, fun j => (byte j _ h).trans BitVec.getLsbD_zero⟩
  · have hones : ∀ j : Fin 56, (0x7f#8).getLsbD (PC1[j].val % 8) = true := by decide
    exact ⟨true, fun j => (byte j _ h).trans (hones j)⟩

/-- Settles O45: a rotation stays within its half, so with constant halves all rounds have one pair; a key whose low
seven bits are all alike has the same value in both halves. -/
theorem selfInverseKeys : Obligations.SelfInverseKeys := by
  refine ⟨fun key h => ⟨keySchedule_modes_eq_of_constant_halves h, fun i i' =>
    ⟨roundWord_eq_of_constant_halves h i i' false, roundWord_eq_of_constant_halves h i i' true⟩⟩, fun key hkey => ?_⟩
  obtain ⟨c, hc⟩ := pc1m_const_of_low_bits hkey
  exact keySchedule_modes_eq_of_constant_halves fun j j' _ => (hc j).trans (hc j').symm

end Sys2Proof.Machine
end

section
/-!
PROOFS. Steps 2 and 4 as permutations of 64 places (42_block_cipher.md R122, R125, R131). Each line of a step moves
bits, so a step is told by where each of its output bits comes from, and two steps with the same places are equal.
-/

namespace Sys2Proof.Machine

/-! Bits of halves, and maps that move them. -/

/-- Output bit `q` of the map is input bit `place q`, in the numbering of `halvesBit`. -/
structure MovesBits (f : Halves → Halves) (place : Nat → Nat) : Prop where
  bit : ∀ h q, halvesBit (f h) q = halvesBit h (place q)

theorem MovesBits.andThen {f g : Halves → Halves} {p r : Nat → Nat} (hf : MovesBits f p) (hg : MovesBits g r) :
    MovesBits (g ∘ f) (p ∘ r) :=
  ⟨fun h q => (hg.bit (f h) q).trans (hf.bit h (r q))⟩

theorem halvesBit_left (h : Halves) {q : Nat} (hq : q < 32) : halvesBit h q = h.left.getMsbD q := if_pos hq

theorem halvesBit_right (h : Halves) (q : Nat) : halvesBit h (q + 32) = h.right.getMsbD q := by
  simp [halvesBit]

theorem halves_ext {h k : Halves} (hbits : ∀ q < 64, halvesBit h q = halvesBit k q) : h = k := by
  obtain ⟨l, r⟩ := h
  obtain ⟨l', r'⟩ := k
  rw [Halves.mk.injEq]
  constructor
  · refine BitVec.eq_of_getMsbD_eq fun q hq => ?_
    have := hbits q (by omega)
    rwa [halvesBit_left _ hq, halvesBit_left _ hq] at this
  · refine BitVec.eq_of_getMsbD_eq fun q hq => ?_
    have := hbits (q + 32) (by omega)
    rwa [halvesBit_right, halvesBit_right] at this

theorem MovesBits.ext {f g : Halves → Halves} {p r : Nat → Nat} (hf : MovesBits f p) (hg : MovesBits g r)
    (h : ∀ q < 64, p q = r q) (x : Halves) : f x = g x :=
  halves_ext fun q hq => (hf.bit x q).trans ((congrArg (halvesBit x) (h q hq)).trans (hg.bit x q).symm)

/-! The lines of the two permutations. -/

/-- Where an exchange line takes its bits from: the place `s` to the right of it in the other half, when the mask has
a bit there. -/
def exchangePlace (s : Nat) (m : Word) (q : Nat) : Nat :=
  if q < 32 then (if m.getMsbD (q + s) then q + s + 32 else q)
  else (if m.getMsbD (q - 32) then q - 32 - s else q)

theorem getMsbD_false_of_shift {s : Nat} {m : Word} (hm : m <<< s >>> s = m) {q : Nat} (hq : q < s) :
    m.getMsbD q = false := by
  rw [← hm]
  simp [BitVec.getMsbD_ushiftRight, hq]

theorem exchangeLeft_movesBits {s : Nat} {m : Word} (hm : m <<< s >>> s = m) :
    MovesBits (exchangeLeft s m) (exchangePlace s m) := by
  refine ⟨fun h q => ?_⟩
  rw [exchangePlace]
  by_cases hq : q < 32
  · rw [if_pos hq, halvesBit_left _ hq]
    cases hmq : m.getMsbD (q + s) with
    | false => simp [exchangeLeft, halvesBit_left _ hq, hmq]
    | true =>
      have hlt : q + s < 32 := BitVec.lt_of_getMsbD hmq
      simp [exchangeLeft, halvesBit_right, hmq, hlt]
  · obtain ⟨t, rfl⟩ := Nat.exists_eq_add_of_le' (Nat.le_of_not_lt hq)
    rw [if_neg hq, halvesBit_right, Nat.add_sub_cancel]
    cases hmt : m.getMsbD t with
    | false => simp [exchangeLeft, halvesBit_right, hmt]
    | true =>
      have hlt : t < 32 := BitVec.lt_of_getMsbD hmt
      have hle : ¬ t < s := fun hts => by simp [getMsbD_false_of_shift hm hts] at hmt
      have hsub : t - s < 32 := by omega
      simp [exchangeLeft, halvesBit_left _ hsub, hmt, hlt, hle, Bool.xor_left_comm]

theorem exchangeSame_movesBits (m : Word) : MovesBits (exchangeSame m) (exchangePlace 0 m) := by
  rw [show exchangeSame m = exchangeLeft 0 m from funext (exchangeSame_eq_exchangeLeft m)]
  exact exchangeLeft_movesBits (by simp)

def swapPlace (q : Nat) : Nat := if q < 32 then q + 32 else if q < 64 then q - 32 else q

theorem swap_movesBits : MovesBits Halves.swap swapPlace := by
  refine ⟨fun h q => ?_⟩
  rw [swapPlace]
  by_cases hq : q < 32
  · rw [if_pos hq, halvesBit_left _ hq, halvesBit_right]
    rfl
  · obtain ⟨t, rfl⟩ := Nat.exists_eq_add_of_le' (Nat.le_of_not_lt hq)
    rw [if_neg hq, halvesBit_right, Nat.add_sub_cancel]
    by_cases ht : t < 32
    · rw [if_pos (by omega), halvesBit_left _ ht]
      rfl
    · rw [if_neg (by omega), halvesBit_right]
      simp [Halves.swap, BitVec.getMsbD_of_ge _ t (Nat.le_of_not_lt ht)]

def exchangeRightPlace (s : Nat) (m : Word) : Nat → Nat := (swapPlace ∘ exchangePlace s m) ∘ swapPlace

theorem exchangeRight_movesBits {s : Nat} {m : Word} (hm : m <<< s >>> s = m) :
    MovesBits (exchangeRight s m) (exchangeRightPlace s m) := by
  rw [show exchangeRight s m = Halves.swap ∘ exchangeLeft s m ∘ Halves.swap from rfl]
  exact (swap_movesBits.andThen (exchangeLeft_movesBits hm)).andThen swap_movesBits

/-- One half rotated left by one bit, the other kept. -/
def rotateLeftHalf (h : Halves) : Halves := ⟨rotl32 h.left 1, h.right⟩

def rotateRightHalf (h : Halves) : Halves := ⟨h.left, rotl32 h.right 1⟩

def rotateLeftPlace (q : Nat) : Nat := if q < 32 then (q + 1) % 32 else q

def rotateRightPlace : Nat → Nat := (swapPlace ∘ rotateLeftPlace) ∘ swapPlace

theorem getMsbD_rotl32_one (w : Word) {t : Nat} (ht : t < 32) : (rotl32 w 1).getMsbD t = w.getMsbD ((t + 1) % 32) := by
  rw [rotl32_one, Nat.add_comm]
  simp [BitVec.getMsbD_rotateLeft, ht]

theorem rotateLeftHalf_movesBits : MovesBits rotateLeftHalf rotateLeftPlace := by
  refine ⟨fun h q => ?_⟩
  rw [rotateLeftPlace]
  by_cases hq : q < 32
  · rw [if_pos hq, halvesBit_left _ hq, halvesBit_left _ (by omega)]
    exact getMsbD_rotl32_one h.left hq
  · rw [if_neg hq, halvesBit, halvesBit, if_neg hq, if_neg hq]
    rfl

theorem rotateRightHalf_movesBits : MovesBits rotateRightHalf rotateRightPlace := by
  rw [show rotateRightHalf = Halves.swap ∘ rotateLeftHalf ∘ Halves.swap from rfl]
  exact (swap_movesBits.andThen rotateLeftHalf_movesBits).andThen swap_movesBits

/-! The initial permutation (R122). -/

theorem initialPermutation_eq_lines : initialPermutation =
    rotateLeftHalf ∘ exchangeSame 0xaaaaaaaa#32 ∘ rotateRightHalf ∘ exchangeRight 8 0x00ff00ff#32 ∘
      exchangeRight 2 0x33333333#32 ∘ exchangeLeft 16 0x0000ffff#32 ∘ exchangeLeft 4 0x0f0f0f0f#32 := rfl

/-- Where each output bit of the seven lines comes from: the place is followed back from the last line to the first. -/
def initialPlace : Nat → Nat :=
  (((((exchangePlace 4 0x0f0f0f0f#32 ∘ exchangePlace 16 0x0000ffff#32) ∘ exchangeRightPlace 2 0x33333333#32) ∘
    exchangeRightPlace 8 0x00ff00ff#32) ∘ rotateRightPlace) ∘ exchangePlace 0 0xaaaaaaaa#32) ∘ rotateLeftPlace

theorem initialPermutation_movesBits : MovesBits initialPermutation initialPlace := by
  rw [initialPermutation_eq_lines]
  have h1 := exchangeLeft_movesBits (s := 4) (m := 0x0f0f0f0f#32) (by decide)
  have h2 := exchangeLeft_movesBits (s := 16) (m := 0x0000ffff#32) (by decide)
  have h3 := exchangeRight_movesBits (s := 2) (m := 0x33333333#32) (by decide)
  have h4 := exchangeRight_movesBits (s := 8) (m := 0x00ff00ff#32) (by decide)
  exact (((((h1.andThen h2).andThen h3).andThen h4).andThen rotateRightHalf_movesBits).andThen
    (exchangeSame_movesBits _)).andThen rotateLeftHalf_movesBits

theorem initialPlace_lt : ∀ q : Fin 64, initialPlace q.val < 64 := by decide +kernel

/-- `initialPlace` on the 64 places. -/
def initialMove (q : Fin 64) : Fin 64 := ⟨initialPlace q.val, initialPlace_lt q⟩

theorem initialMove_injective : Function.Injective initialMove := by decide +kernel

theorem halvesBit_initialPermutation (h : Halves) (q : Fin 64) :
    halvesBit (initialPermutation h) q.val = halvesBit h (initialMove q).val := by
  simp only [initialMove, initialPermutation_movesBits.bit h q.val]

/-- Settles O47: the exchange lines are their own inverses, and the places that all lines together give are 64 different
ones. -/
theorem initialPermutationMovesBits : Obligations.InitialPermutationMovesBits := by
  refine ⟨exchangeLeft_exchangeLeft (by decide), exchangeLeft_exchangeLeft (by decide),
    exchangeRight_exchangeRight (by decide), exchangeRight_exchangeRight (by decide), exchangeSame_exchangeSame _,
    Equiv.ofBijective initialMove (Finite.injective_iff_bijective.mp initialMove_injective), fun h q => ?_⟩
  rw [Equiv.ofBijective_apply]
  exact halvesBit_initialPermutation h q

/-! The textbook terms (R131). -/

theorem halvesBit_halvesOfBits (f : Nat → Bool) {q : Nat} (hq : q < 64) : halvesBit (halvesOfBits f) q = f q := by
  by_cases h : q < 32
  · rw [halvesBit_left _ h, halvesOfBits, BitVec.getMsbD_ofFnBE, dif_pos h]
  · obtain ⟨t, rfl⟩ := Nat.exists_eq_add_of_le' (Nat.le_of_not_lt h)
    rw [halvesBit_right, halvesOfBits, BitVec.getMsbD_ofFnBE, dif_pos (Nat.lt_of_add_lt_add_right hq)]

theorem halvesBit_of_ge (h : Halves) {q : Nat} (hq : 64 ≤ q) : halvesBit h q = false := by
  obtain ⟨t, rfl⟩ := Nat.exists_eq_add_of_le' (Nat.le_trans (by decide) hq : 32 ≤ q)
  rw [halvesBit_right, BitVec.getMsbD_of_ge _ _ (by omega)]

/-- Where the textbook initial permutation takes its bits from. -/
def textbookPlace (q : Nat) : Nat := if q < 64 then textbookIP.toList.getD q 0 - 1 else q

theorem textbookInitial_movesBits : MovesBits textbookInitial textbookPlace := by
  refine ⟨fun h q => ?_⟩
  rw [textbookPlace]
  split
  next hq => exact halvesBit_halvesOfBits _ hq
  next hq => rw [halvesBit_of_ge _ (Nat.le_of_not_lt hq), halvesBit_of_ge _ (Nat.le_of_not_lt hq)]

/-- Each half rotated left by one bit. -/
def rotateHalvesOnce (h : Halves) : Halves := ⟨rotl32 h.left 1, rotl32 h.right 1⟩

theorem rotateHalvesOnce_movesBits : MovesBits rotateHalvesOnce (rotateRightPlace ∘ rotateLeftPlace) := by
  rw [show rotateHalvesOnce = rotateLeftHalf ∘ rotateRightHalf from rfl]
  exact rotateRightHalf_movesBits.andThen rotateLeftHalf_movesBits

/-- R131: step 2 is the textbook initial permutation and then a rotation of each half. -/
theorem initialPermutation_eq_textbook (h : Halves) : initialPermutation h = rotateHalvesOnce (textbookInitial h) :=
  initialPermutation_movesBits.ext (textbookInitial_movesBits.andThen rotateHalvesOnce_movesBits)
    (by decide +kernel) h

/-- The bits of the textbook's inverse permutation, which takes them from where `IP` puts them. -/
theorem textbookInitial_textbookFinal (h : Halves) : textbookInitial (textbookFinal h) = h := by
  have hinverse : ∀ q < 64, textbookPlace q < 64 ∧ textbookIP.toList.idxOf (textbookPlace q + 1) = q := by decide +kernel
  refine halves_ext fun q hq => ?_
  obtain ⟨hlt, hidx⟩ := hinverse q hq
  rw [textbookInitial_movesBits.bit, textbookFinal, halvesBit_halvesOfBits _ hlt, hidx]

theorem finalPermutation_swap_rotateHalvesOnce (h : Halves) :
    finalPermutation (rotateHalvesOnce h).swap = (textbookFinal h).swap :=
  calc finalPermutation (rotateHalvesOnce h).swap
      = finalPermutation (initialPermutation (textbookFinal h)).swap := by
        rw [initialPermutation_eq_textbook, textbookInitial_textbookFinal]
    _ = (textbookFinal h).swap := finalPermutation_swap_initialPermutation _

/-- Settles O54: step 2 by comparing places, step 4 as what undoes step 2. -/
theorem permutationsInTextbookTerms : Obligations.PermutationsInTextbookTerms :=
  ⟨initialPermutation_eq_textbook, fun h => finalPermutation_swap_rotateHalvesOnce h.swap⟩

end Sys2Proof.Machine
end

section
/-!
PROOFS. The cipher (42_block_cipher.md): the law of steps 2 and 4, what a round reads of the schedule, and the core as
textbook DES under the bit-reversed key, step by step (R123 to R126, R130, R131).
-/

namespace Sys2Proof.Machine

/-- Settles O48: `finalPermutation_swap_initialPermutation`, with the exchange of the halves written out. -/
theorem finalPermutationUndoesInitial : Obligations.FinalPermutationUndoesInitial :=
  finalPermutation_swap_initialPermutation

/-- Settles O49: loading an emitted block exchanges its halves, and step 2 undoes step 4 on exchanged halves. -/
theorem outputHalvesAreExchanged : Obligations.OutputHalvesAreExchanged := fun _ _ =>
  (congrArg initialPermutation (loadBlock_emitBlock _)).trans (initialPermutation_swap_finalPermutation _)

/-- Settles O50: the two forms of a round by its parity, and `cipherRound_involutive`. -/
theorem roundChangesOneHalf : Obligations.RoundChangesOneHalf := by
  intro ks i h
  refine ⟨fun heven => ?_, fun hodd => ?_, cipherRound_involutive ks i h⟩
  · rw [cipherRound_of_even ks heven]
    exact ⟨rfl, rfl⟩
  · rw [cipherRound_of_odd ks (by omega)]
    exact ⟨rfl, rfl⟩

/-- Settles O53: one closed evaluation. -/
theorem knownAnswerVector : Obligations.KnownAnswerVector := by
  unfold Obligations.KnownAnswerVector
  decide +kernel

/-! What a round reads of the schedule words (R123, U7). -/

theorem sixBits_xor (v w : Word) (s : Nat) : sixBits (v ^^^ w) s = sixBits v s ^^^ sixBits w s := by
  simp [sixBits, BitVec.ushiftRight_xor_distrib]

/-- The groups of a word that a round function reads: those at the low ends of its bytes. -/
theorem sixBits_and_3f (w : Word) (k : Fin 4) : sixBits (w &&& 0x3f3f3f3f#32) (8 * k.val) = sixBits w (8 * k.val) := by
  have hones : sixBits 0x3f3f3f3f#32 (8 * k.val) = BitVec.allOnes 6 := by
    revert k
    decide
  have hand : sixBits (w &&& 0x3f3f3f3f#32) (8 * k.val) = sixBits w (8 * k.val) &&& sixBits 0x3f3f3f3f#32 (8 * k.val) := by
    simp [sixBits, BitVec.ushiftRight_and_distrib]
  rw [hand, hones, BitVec.and_allOnes]

/-- Where the group for box `n + 1` stands in its word: at the low end of the byte `n / 2`. -/
def boxShift (n : Fin 8) : Nat := 8 * (3 - n.val / 2)

/-- The six bits of the half that meet box `n + 1`, before the subkey. -/
def halfGroup (x : Word) (n : Fin 8) : BitVec 6 := sixBits (if n.val % 2 == 1 then x else rotr32 x 4) (boxShift n)

/-- The six bits that index the table of box `n + 1`. -/
def boxGroup (x k0 k1 : Word) (n : Fin 8) : BitVec 6 :=
  halfGroup x n ^^^ sixBits (if n.val % 2 == 1 then k1 else k0) (boxShift n)

theorem foldl_or_finRange_eight (g : Fin 8 → Word) : (List.finRange 8).foldl (fun w n => w ||| g n) 0#32 =
    g 0 ||| g 1 ||| g 2 ||| g 3 ||| g 4 ||| g 5 ||| g 6 ||| g 7 := by
  rw [← BitVec.zero_or (x := g 0)]
  rfl

/-- R123 in the order of the boxes: the tables for even `n` read the first work word, the others the second. -/
theorem roundF_eq_foldl (x k0 k1 : Word) : roundF x k0 k1 =
    (List.finRange 8).foldl (fun w n => w ||| spRead spTables[n] (boxGroup x k0 k1 n)) 0#32 := by
  have heven (n : Fin 8) (hn : (n.val % 2 == 1) = false) :
      sixBits (rotr32 x 4 ^^^ k0) (boxShift n) = boxGroup x k0 k1 n := by
    simp [boxGroup, halfGroup, hn, sixBits_xor]
  have hodd (n : Fin 8) (hn : (n.val % 2 == 1) = true) : sixBits (x ^^^ k1) (boxShift n) = boxGroup x k0 k1 n := by
    simp [boxGroup, halfGroup, hn, sixBits_xor]
  have hwords : roundF x k0 k1 =
      spRead spTables[6] (boxGroup x k0 k1 6) ||| spRead spTables[4] (boxGroup x k0 k1 4) |||
      spRead spTables[2] (boxGroup x k0 k1 2) ||| spRead spTables[0] (boxGroup x k0 k1 0) |||
      spRead spTables[7] (boxGroup x k0 k1 7) ||| spRead spTables[5] (boxGroup x k0 k1 5) |||
      spRead spTables[3] (boxGroup x k0 k1 3) ||| spRead spTables[1] (boxGroup x k0 k1 1) := by
    rw [← heven 0 rfl, ← heven 2 rfl, ← heven 4 rfl, ← heven 6 rfl, ← hodd 1 rfl, ← hodd 3 rfl, ← hodd 5 rfl,
      ← hodd 7 rfl]
    rfl
  rw [hwords, foldl_or_finRange_eight]
  ac_rfl

theorem boxGroup_and_3f (x k0 k1 : Word) (n : Fin 8) :
    boxGroup x (k0 &&& 0x3f3f3f3f#32) (k1 &&& 0x3f3f3f3f#32) n = boxGroup x k0 k1 n := by
  have hand (k : Word) : sixBits (k &&& 0x3f3f3f3f#32) (boxShift n) = sixBits k (boxShift n) :=
    sixBits_and_3f k ⟨3 - n.val / 2, by omega⟩
  simp only [boxGroup, ← apply_ite (· &&& 0x3f3f3f3f#32), hand]

theorem roundF_and_3f (x k0 k1 : Word) : roundF x (k0 &&& 0x3f3f3f3f#32) (k1 &&& 0x3f3f3f3f#32) = roundF x k0 k1 := by
  simp only [roundF_eq_foldl, boxGroup_and_3f]

theorem cipherRound_and_3f (ks : Schedule) : cipherRound (ks.map (· &&& 0x3f3f3f3f#32)) = cipherRound ks := by
  funext i h
  simp only [cipherRound, Vector.getElem_map, roundF_and_3f]

/-- Settles O51: a round reads the words by groups that have none of the reserved bits (`roundF_and_3f`). -/
theorem transformIgnoresReservedBits : Obligations.TransformIgnoresReservedBits := fun block ks => by
  simp only [transform, cipherRounds, cipherRound_and_3f]

/-! The textbook round function (R130, R131). -/

theorem getMsbD_rotr32_four (w : Word) {t : Nat} (ht : t < 32) :
    (rotr32 w 4).getMsbD t = w.getMsbD ((t + 28) % 32) := by
  rw [rotr32_four]
  by_cases h4 : t < 4
  · simp [BitVec.getMsbD_rotateRight, ht, h4, show 32 + t - 4 = t + 28 by omega]
  · simp [BitVec.getMsbD_rotateRight, ht, h4, show (t + 28) % 32 = t - 4 by omega]

theorem sixBits_getMsbD (w : Word) {s : Nat} (hs : s ≤ 26) (b : Fin 6) :
    (sixBits w s).getMsbD b.val = w.getMsbD (26 - s + b.val) := by
  rw [sixBits_msb, BitVec.getMsbD_eq_getLsbD, decide_eq_true (by omega), Bool.true_and]
  congr 1
  omega

/-- The half stands rotated left by one bit, so the rotated and the unrotated work word meet the expansion's six bits. -/
theorem halfGroup_rotl32_msb (r : Word) (n : Fin 8) (b : Fin 6) :
    (halfGroup (rotl32 r 1) n).getMsbD b.val = r.getMsbD ((4 * n.val + 31 + b.val) % 32) := by
  have hshift : boxShift n ≤ 26 := by rw [boxShift]; omega
  rw [halfGroup, sixBits_getMsbD _ hshift]
  cases hn : n.val % 2 == 1 with
  | true =>
    rw [if_pos rfl, getMsbD_rotl32_one _ (by omega)]
    congr 1
    simp only [boxShift, beq_iff_eq] at hn ⊢
    omega
  | false =>
    rw [if_neg (by decide), getMsbD_rotr32_four _ (by omega), getMsbD_rotl32_one _ (by omega)]
    congr 1
    simp only [boxShift, beq_eq_false_iff_ne] at hn ⊢
    omega

theorem boxGroup_roundWord (x : Word) (key : Payload) (i : Fin 16) (n : Fin 8) :
    boxGroup x (roundWord key i false) (roundWord key i true) n = halfGroup x n ^^^ keyField key i n := by
  rw [boxGroup, keyField, boxShift]
  cases n.val % 2 == 1 <;> rfl

theorem boxGroup_eq_textbookChunk (r : Word) (key : Payload) (i : Fin 16) (n : Fin 8) :
    boxGroup (rotl32 r 1) (roundWord key i false) (roundWord key i true) n =
      textbookChunk r (fun q => pcr key i PC2[q]) n := by
  rw [boxGroup_roundWord]
  refine BitVec.eq_of_getMsbD_eq fun b hb => ?_
  rw [BitVec.getMsbD_xor, halfGroup_rotl32_msb r n ⟨b, hb⟩, keyField_msb key i n ⟨b, hb⟩, textbookChunk,
    BitVec.getMsbD_ofFnBE, dif_pos hb]
  rfl

theorem getMsbD_permuteP (w : Word) {t : Nat} (ht : t < 32) :
    (permuteP w).getMsbD t = w.getMsbD (roundPermutation[t] - 1) := by
  rw [permuteP, BitVec.getMsbD_ofFnBE, dif_pos ht]
  rfl

theorem permuteP_or (v w : Word) : permuteP (v ||| w) = permuteP v ||| permuteP w :=
  BitVec.eq_of_getMsbD_eq fun t ht => by simp only [BitVec.getMsbD_or, getMsbD_permuteP _ ht]

theorem rotl32_one_or (v w : Word) : rotl32 (v ||| w) 1 = rotl32 v 1 ||| rotl32 w 1 :=
  BitVec.eq_of_getMsbD_eq fun t ht => by simp only [BitVec.getMsbD_or, getMsbD_rotl32_one _ ht]

/-- R123, R130: the core's round function is the textbook's, on halves rotated left by one bit. -/
theorem roundF_eq_textbookF (r : Word) (key : Payload) (i : Fin 16) :
    roundF (rotl32 r 1) (roundWord key i false) (roundWord key i true) =
      rotl32 (textbookF r fun q => pcr key i PC2[q]) 1 := by
  simp only [roundF_eq_foldl, boxGroup_eq_textbookChunk, spRead_eq_spConstructed, textbookF, foldl_or_finRange_eight,
    permuteP_or, rotl32_one_or, spConstructed]

/-! The textbook subkeys (R130). -/

theorem rotIndex_rotIndex (r r' : Nat) (j : Fin 56) : rotIndex r (rotIndex r' j) = rotIndex (r + r') j := by
  apply Fin.ext
  simp only [rotIndex_val]
  split <;> split <;> omega

theorem rotateHalves_eq_rotIndex_sum (shifts : List Nat) (cd : Fin 56 → Bool) :
    rotateHalves shifts cd = fun j => cd (rotIndex shifts.sum j) := by
  induction shifts generalizing cd with
  | nil =>
    have hzero (j : Fin 56) : rotIndex 0 j = j := Fin.ext (by rw [rotIndex_val]; split <;> omega)
    simp [rotateHalves, hzero]
  | cons r shifts ih =>
    have hcons : rotateHalves (r :: shifts) cd = rotateHalves shifts fun j => cd (rotIndex r j) := rfl
    simp only [hcons, ih, rotIndex_rotIndex, List.sum_cons]

theorem textbookKeyBit_bitrevKey (key : Payload) (l : Fin 64) : textbookKeyBit (bitrevKey key) l = keyBit key l := by
  have hl : l.val % 8 < 8 := Nat.mod_lt _ (by decide)
  rw [keyBit_eq_getLsbD, textbookKeyBit, bitrevKey, Vector.getElem_map, bitrev8, BitVec.getMsbD_ofFnBE, dif_pos hl]

theorem textbookSubkey_bitrevKey (key : Payload) (i : Fin 16) (q : Fin 48) :
    textbookSubkey (bitrevKey key) i q = pcr key i PC2[q] := by
  simp only [textbookSubkey, rotateHalves_eq_rotIndex_sum, textbookKeyBit_bitrevKey, ← totRot_eq_sum]
  rfl

/-! The sixteen rounds (R124): the core never exchanges its halves, so after an odd number of rounds they stand in the
other order than the textbook's. -/

/-- The core's halves where the textbook's after `n` rounds are `h`. -/
def coreHalves (n : Nat) (h : Halves) : Halves := rotateHalvesOnce (if n % 2 = 0 then h else h.swap)

theorem coreHalves_of_even {n : Nat} (hn : n % 2 = 0) (h : Halves) : coreHalves n h = rotateHalvesOnce h := by
  rw [coreHalves, if_pos hn]

theorem coreHalves_of_odd {n : Nat} (hn : ¬ n % 2 = 0) (h : Halves) : coreHalves n h = rotateHalvesOnce h.swap := by
  rw [coreHalves, if_neg hn]

theorem rotl32_one_xor (v w : Word) : rotl32 (v ^^^ w) 1 = rotl32 v 1 ^^^ rotl32 w 1 :=
  BitVec.eq_of_getMsbD_eq fun t ht => by simp only [BitVec.getMsbD_xor, getMsbD_rotl32_one _ ht]

theorem roundF_keySchedule (r : Word) (key : Payload) (decrypt : Bool) (i : Fin 16) :
    roundF (rotl32 r 1) (keySchedule key decrypt)[2 * i.val] (keySchedule key decrypt)[2 * i.val + 1] =
      rotl32 (textbookF r (textbookSubkey (bitrevKey key) (slotOf decrypt i))) 1 := by
  have h0 := keySchedule_getElem_pair key decrypt i 0
  have h1 := keySchedule_getElem_pair key decrypt i 1
  have hkey : textbookSubkey (bitrevKey key) (slotOf decrypt i) = fun q => pcr key (slotOf decrypt i) PC2[q] :=
    funext (textbookSubkey_bitrevKey key (slotOf decrypt i))
  rw [hkey, ← roundF_eq_textbookF]
  exact congrArg₂ (roundF (rotl32 r 1)) h0 h1

theorem cipherRound_coreHalves (key : Payload) (decrypt : Bool) (i : Fin 16) (h : Halves) :
    cipherRound (keySchedule key decrypt) i (coreHalves i.val h) =
      coreHalves (i.val + 1) (textbookRound (textbookSubkey (bitrevKey key) (slotOf decrypt i)) h) := by
  by_cases hi : i.val % 2 = 0
  · rw [cipherRound_of_even _ hi, coreHalves_of_even hi, coreHalves_of_odd (by omega)]
    simp only [rotateHalvesOnce, Halves.swap, textbookRound, roundF_keySchedule, rotl32_one_xor]
  · rw [cipherRound_of_odd _ hi, coreHalves_of_odd hi, coreHalves_of_even (by omega)]
    simp only [rotateHalvesOnce, Halves.swap, textbookRound, roundF_keySchedule, rotl32_one_xor]

/-- Two folds over the numbers below `n` keep a relation that may depend on how many steps are done. -/
theorem foldl_finRange_rel {α β : Type} (R : Nat → α → β → Prop) {n : Nat} {f : α → Fin n → α} {g : β → Fin n → β}
    {a : α} {b : β} (h0 : R 0 a b) (hstep : ∀ (i : Fin n) a b, R i.val a b → R (i.val + 1) (f a i) (g b i)) :
    R n ((List.finRange n).foldl f a) ((List.finRange n).foldl g b) := by
  induction n with
  | zero => exact h0
  | succ n ih =>
    rw [List.finRange_succ_last, List.foldl_append, List.foldl_append, List.foldl_map, List.foldl_map]
    exact hstep (Fin.last n) _ _ (ih fun i => hstep i.castSucc)

/-- The textbook's sixteen rounds. -/
def textbookRounds (key : Payload) (decrypt : Bool) (h : Halves) : Halves :=
  (List.finRange 16).foldl (fun h i => textbookRound (textbookSubkey key (slotOf decrypt i)) h) h

theorem textbookDes_eq (key block : Payload) (decrypt : Bool) : textbookDes key block decrypt =
    emitBlock (textbookFinal (textbookRounds key decrypt (textbookInitial (loadBlock block))).swap).swap := rfl

theorem cipherRounds_coreHalves (key : Payload) (decrypt : Bool) (h : Halves) :
    cipherRounds (keySchedule key decrypt) (rotateHalvesOnce h) =
      rotateHalvesOnce (textbookRounds (bitrevKey key) decrypt h) := by
  rw [← coreHalves_of_even (by decide : 0 % 2 = 0) h, ← coreHalves_of_even (by decide : 16 % 2 = 0), cipherRounds,
    textbookRounds]
  refine foldl_finRange_rel (fun n core textbook => core = coreHalves n textbook) rfl fun i core textbook hrel => ?_
  rw [hrel]
  exact cipherRound_coreHalves key decrypt i textbook

/-- Settles O55: step 2 gives the textbook's halves rotated, each round keeps that up to the order of the halves, and
step 4 undoes it. -/
theorem coreIsTextbookDes : Obligations.CoreIsTextbookDes := by
  intro key block decrypt
  rw [transform, initialPermutation_eq_textbook, cipherRounds_coreHalves, textbookDes_eq,
    ← finalPermutation_swap_rotateHalvesOnce]
  rfl

/-! Complementing key and block (95_test_vectors.md TV10): every step commutes with the complement, and the round
function does not see it, as its half and its subkey are both complemented. -/

/-- Both halves with every bit complemented. -/
def Halves.compl (h : Halves) : Halves := ⟨~~~h.left, ~~~h.right⟩

theorem emitBlock_compl (h : Halves) : emitBlock h.compl = (emitBlock h).map (~~~·) := by
  have hbyte (w : Word) (k : Fin 4) : byteBE (~~~w) k = ~~~byteBE w k := BitVec.eq_of_getLsbD_eq fun n hn => by
    rw [BitVec.getLsbD_not, getLsbD_byteBE_of_lt _ k hn, getLsbD_byteBE_of_lt _ k hn, BitVec.getLsbD_not,
      decide_eq_true hn, decide_eq_true (by omega)]
  simp [emitBlock, Halves.compl, hbyte]

theorem loadBlock_map_not (b : Payload) : loadBlock (b.map (~~~·)) = (loadBlock b).compl := by
  have hb : b.map (~~~·) = emitBlock (loadBlock b).swap.compl := by
    rw [emitBlock_compl, emitBlock_swap_loadBlock]
  rw [hb, loadBlock_emitBlock]
  rfl

theorem halvesBit_compl (h : Halves) {q : Nat} (hq : q < 64) : halvesBit h.compl q = !halvesBit h q := by
  by_cases hlt : q < 32
  · simp [halvesBit_left _ hlt, Halves.compl, hlt]
  · obtain ⟨t, rfl⟩ := Nat.exists_eq_add_of_le' (Nat.le_of_not_lt hlt)
    simp [halvesBit_right, Halves.compl, show t < 32 by omega]

theorem halvesOfBits_compl {place : Nat → Nat} (hplace : ∀ q < 64, place q < 64) (h : Halves) :
    halvesOfBits (fun q => halvesBit h.compl (place q)) = (halvesOfBits fun q => halvesBit h (place q)).compl :=
  halves_ext fun q hq => by
    rw [halvesBit_compl _ hq, halvesBit_halvesOfBits _ hq, halvesBit_halvesOfBits _ hq, halvesBit_compl _ (hplace q hq)]

theorem textbookInitial_compl (h : Halves) : textbookInitial h.compl = (textbookInitial h).compl :=
  halvesOfBits_compl (by decide +kernel) h

theorem textbookFinal_compl (h : Halves) : textbookFinal h.compl = (textbookFinal h).compl :=
  halvesOfBits_compl (by decide +kernel) h

theorem pcr_map_not (key : Payload) (i : Fin 16) (j : Fin 56) : pcr (key.map (~~~·)) i j = !pcr key i j := by
  simp only [pcr, pc1m, keyBit_eq_getLsbD, Vector.getElem_map, BitVec.getLsbD_not]
  rw [decide_eq_true (Nat.mod_lt _ (by decide)), Bool.true_and]

theorem textbookChunk_compl (r : Word) (k : Fin 48 → Bool) (n : Fin 8) :
    textbookChunk (~~~r) (fun q => !k q) n = textbookChunk r k n := by
  have hbit (t : Nat) : (~~~r).getMsbD (t % 32) = !r.getMsbD (t % 32) := by
    simp [show t % 32 < 32 by omega]
  simp only [textbookChunk, hbit, Bool.not_xor_not]

theorem textbookRound_compl (k : Fin 48 → Bool) (h : Halves) :
    textbookRound (fun q => !k q) h.compl = (textbookRound k h).compl := by
  simp [textbookRound, textbookF, Halves.compl, textbookChunk_compl, BitVec.not_xor_left]

theorem textbookRounds_compl (key : Payload) (decrypt : Bool) (h : Halves) :
    textbookRounds (bitrevKey (key.map (~~~·))) decrypt h.compl = (textbookRounds (bitrevKey key) decrypt h).compl := by
  have hsubkey (i : Fin 16) : textbookSubkey (bitrevKey (key.map (~~~·))) i =
      fun q => !textbookSubkey (bitrevKey key) i q := by
    funext q
    rw [textbookSubkey_bitrevKey, textbookSubkey_bitrevKey, pcr_map_not]
  simp only [textbookRounds, hsubkey]
  exact List.foldl_hom Halves.compl fun h i => textbookRound_compl _ h

/-- Settles O56: the complement passes through every step of the textbook cipher, which the core computes. -/
theorem complementation : Obligations.Complementation := by
  intro key block decrypt
  have hswap (h : Halves) : h.compl.swap = h.swap.compl := rfl
  simp only [coreIsTextbookDes _ _ _, textbookDes_eq, loadBlock_map_not, textbookInitial_compl, textbookRounds_compl,
    hswap, textbookFinal_compl, emitBlock_compl]

end Sys2Proof.Machine
end

section
/-!
PROOFS. The host's password operations (43_password_ops.md R142 to R145).
-/

namespace Sys2Proof.Machine

/-! Bytes cut or padded to 8. -/

theorem pad8_eq_iff (p q : List Byte) : pad8 p = pad8 q ↔ ∀ k < 8, p.getD k 0#8 = q.getD k 0#8 := by
  simp [pad8, Vector.ext_iff]

theorem pad8_take (p : List Byte) : pad8 (p.take 8) = pad8 p :=
  (pad8_eq_iff _ _).mpr fun k hk => by simp [List.getD, List.getElem?_take_of_lt hk]

theorem pad8_append_zeros (p : List Byte) (n : Nat) : pad8 (p ++ List.replicate n 0#8) = pad8 p :=
  (pad8_eq_iff _ _).mpr fun k _ => by
    rcases Nat.lt_or_ge k p.length with hlt | hge
    · rw [List.getD_append _ _ _ _ hlt]
    · rw [List.getD_append_right _ _ _ _ hge, List.getD_eq_default _ _ hge, List.getD_eq_getElem?_getD,
        List.getElem?_getD_replicate_default_eq]

/-- Settles O57: the password enters only by `pad8`. -/
theorem passwordsAreCutAndPadded : Obligations.PasswordsAreCutAndPadded := by
  refine ⟨fun fk p q h => ?_, fun fk p n => ?_⟩
  · rw [encryptPassword, encryptPassword, ← pad8_take p, h, pad8_take]
  · rw [encryptPassword, encryptPassword, pad8_append_zeros]

/-! Byte strings that must have 8 bytes. -/

theorem exactly8_toList (p : Payload) : exactly8 p.toList = some p := by
  simp [exactly8, Vector.toList]

theorem exactly8_eq_none_iff (x : List Byte) : exactly8 x = none ↔ x.length ≠ 8 := by
  simp [exactly8]

/-- Settles O58: the other mode of the fixed key undoes the transform, and `exactly8` alone rejects. -/
theorem passwordRoundTrip : Obligations.PasswordRoundTrip := by
  refine ⟨fun fk p => ?_, fun fk c => ?_⟩
  · rw [decryptPassword, exactly8_toList, Option.map_some, encryptPassword]
    exact congrArg some (transform_other_mode fk (pad8 p) false)
  · rw [decryptPassword, Option.map_eq_none_iff, exactly8_eq_none_iff]

/-! The two blocks of a challenge. -/

theorem challengeResponse_append (pw : List Byte) (c0 c1 : Payload) :
    challengeResponse pw (c0.toList ++ c1.toList) =
      some ((transform c0 (keySchedule (pad8 pw) false)).toList ++
        (transform c1 (keySchedule (pad8 pw) false)).toList) := by
  have htake : (c0.toList ++ c1.toList).take 8 = c0.toList := List.take_left' (by simp)
  have hdrop : (c0.toList ++ c1.toList).drop 8 = c1.toList := List.drop_left' (by simp)
  simp only [challengeResponse, htake, hdrop, exactly8_toList]

theorem challengeResponse_eq_none_iff (pw ch : List Byte) : challengeResponse pw ch = none ↔ ch.length ≠ 16 := by
  have hblocks : challengeResponse pw ch = none ↔ exactly8 (ch.take 8) = none ∨ exactly8 (ch.drop 8) = none := by
    cases h0 : exactly8 (ch.take 8) <;> cases h1 : exactly8 (ch.drop 8) <;> simp [challengeResponse, h0, h1]
  rw [hblocks, exactly8_eq_none_iff, exactly8_eq_none_iff, List.length_take, List.length_drop]
  omega

theorem challengeResponse_congr {pw pw' : List Byte}
    (h : keySchedule (pad8 pw) false = keySchedule (pad8 pw') false) (ch : List Byte) :
    challengeResponse pw ch = challengeResponse pw' ch := by
  simp only [challengeResponse, h]

/-- Settles O59: the halves of the challenge are taken apart and answered one by one; the top bits of the password do
not reach the schedule (`scheduleIgnoresExactlyBitSeven`). -/
theorem challengeResponseBlocks : Obligations.ChallengeResponseBlocks :=
  ⟨challengeResponse_append, challengeResponse_eq_none_iff, fun _ _ ch h =>
    challengeResponse_congr ((scheduleIgnoresExactlyBitSeven _ _ false).mpr h) ch⟩

end Sys2Proof.Machine
end
